-- ==== Sys2Proof/Word.lean ====
section
/-! DEFINITION. The word types of the engine (00_scope.md rules R7 and R10): unsigned bit vectors, bit 0
the least significant. The engine has no signed quantity. -/

namespace Sys2Proof

/-- `u8`: a data-bus value, one cell of mapped memory, a pattern (R7 `DATA_W` = 8). -/
abbrev Byte := BitVec 8

/-- `u16`: an address-bus value, a mapped memory address (R7 `ADDR_W` = 16). -/
abbrev Addr := BitVec 16

/-- `u32`: an error counter, a region length, a chip label. -/
abbrev Word32 := BitVec 32

/-- `u64`: a command word (R120), a BusSnapshot or a SignalMask (R131). -/
abbrev Word64 := BitVec 64

end Sys2Proof
end

