-- ==== Sys2Proof/Syntax.lean ====
section
/-! DEFINITION. The 23 commands of the engine: one constructor per row of spec/opcode_table.json
(30_encoding.md rule R123), with the operands the row's format has (rules R120 to R122). -/

namespace Sys2Proof

/-- A command. The pattern operands are bytes (they are inverted and XORed); the counts `N` and `D`
are unsigned counts (R122) and so plain numbers, bounded by `Instr.wellFormed`: DEDUCED (log 21), safe. -/
inductive Instr where
  /-- R337 -/
  | nop
  /-- R212 -/
  | activate
  /-- R215 -/
  | deactivate
  /-- R338 -/
  | clear
  /-- R155 -/
  | verifyData
  /-- R158 -/
  | verifyAddr
  /-- R161 -/
  | verifyCtrl
  /-- R183 -/
  | sample
  /-- R186 -/
  | crosstalk
  /-- R240: `pattern` (P), `toggle` (T) -/
  | repwrite (p : Byte) (t : Bool)
  /-- R243: `pattern` (P) -/
  | repread (p : Byte)
  /-- R246: `toggle_start` (T) -/
  | checker (t : Bool)
  /-- R272 -/
  | walk1
  /-- R273 -/
  | walk0
  /-- R283 -/
  | marchc
  /-- R284 -/
  | marchss
  /-- R285 -/
  | marchla
  /-- R302: `pattern` (P) -/
  | movinv (p : Byte)
  /-- R312: `pattern` (P), `delay_ms` (D), `repeat_count` (N), in the assembler's order (R135) -/
  | retention (p : Byte) (d : Nat) (n : Nat)
  /-- R249: `pattern` (P), `num_reads` (N) -/
  | readdestr (p : Byte) (n : Nat)
  /-- R253: `xor_pattern` (P) -/
  | addruniq (p : Byte)
  /-- R327 -/
  | suite
  /-- R330 -/
  | fullpass
  deriving DecidableEq, Repr

end Sys2Proof
end

