-- ==== Sys2Proof/WellFormed.lean ====
section
/-! DEFINITION. Which terms of `Instr` are commands of the engine: the counts `N` and `D` must fit their
fields (30_encoding.md rule R122: `N` is 0 to 255, `D` is 0 to 65535). -/

namespace Sys2Proof

/-- R122: the operand counts fit the fields that carry them. -/
def Instr.wellFormed : Instr → Bool
  | .nop | .activate | .deactivate | .clear => true
  | .verifyData | .verifyAddr | .verifyCtrl | .sample | .crosstalk => true
  | .repwrite _ _ | .repread _ | .checker _ | .walk1 | .walk0 => true
  | .marchc | .marchss | .marchla | .movinv _ => true
  | .retention _ d n => decide (d < 65536) && decide (n < 256)
  | .readdestr _ n => decide (n < 256)
  | .addruniq _ | .suite | .fullpass => true

end Sys2Proof
end

