-- ==== Sys2Proof/Decode.lean ====
section
/-! DEFINITION. The command word: its decoder (30_encoding.md rules R120 to R126, lines 3 and 4 of rule R127)
and, after it, its encoder, written from the same tables. -/

namespace Sys2Proof

/-- Why a word is no command: line 3 or line 4 of R127. -/
inductive Reject where
  /-- R125: `w[7:0]` is not one of the 23 opcodes (`ERR_BAD_OPCODE`). -/
  | badOpcode
  /-- R124: a must-be-zero bit is 1 (`ERR_BAD_PARAM`). -/
  | badParam
  deriving DecidableEq, Repr

/-- R121: the formats of the command word. -/
inductive Format where
  | z | p | t | pt | pn | pdn
  deriving DecidableEq, Repr

/-- R121: the bits of the word that must match the opcode zero-extended to 64 bits. -/
def Format.mask : Format → Word64
  | .z   => 0xFFFFFFFFFFFFFFFF#64
  | .p   => 0xFFFFFFFFFFFF00FF#64
  | .t   => 0xFFFFFFFFFFFEFFFF#64
  | .pt  => 0xFFFFFFFFFFFE00FF#64
  | .pn  => 0xFFFFFFFF00FF00FF#64
  | .pdn => 0xFFFF000000FF00FF#64

/-- R120 `OP`, bits 7:0. -/
def fieldOp (w : Word64) : Byte := w.extractLsb' 0 8

/-- R120 `P`, bits 15:8. -/
def fieldP (w : Word64) : Byte := w.extractLsb' 8 8

/-- R120 `T`, bit 16. -/
def fieldT (w : Word64) : Bool := w.getLsbD 16

/-- R120 `N`, bits 31:24. -/
def fieldN (w : Word64) : Nat := (w.extractLsb' 24 8).toNat

/-- R120 `D`, bits 47:32. -/
def fieldD (w : Word64) : Nat := (w.extractLsb' 32 16).toNat

/-- R123: the row an opcode selects, its format, and the command the word's operand fields make. -/
def rowOf (w : Word64) : Option (Format × Instr) :=
  match fieldOp w with
  | 0x00#8 => some (.z, .nop)
  | 0x01#8 => some (.z, .activate)
  | 0x02#8 => some (.z, .deactivate)
  | 0x03#8 => some (.z, .clear)
  | 0x10#8 => some (.z, .verifyData)
  | 0x11#8 => some (.z, .verifyAddr)
  | 0x12#8 => some (.z, .verifyCtrl)
  | 0x18#8 => some (.z, .sample)
  | 0x19#8 => some (.z, .crosstalk)
  | 0x20#8 => some (.pt, .repwrite (fieldP w) (fieldT w))
  | 0x21#8 => some (.p, .repread (fieldP w))
  | 0x22#8 => some (.t, .checker (fieldT w))
  | 0x23#8 => some (.z, .walk1)
  | 0x24#8 => some (.z, .walk0)
  | 0x25#8 => some (.z, .marchc)
  | 0x26#8 => some (.z, .marchss)
  | 0x27#8 => some (.z, .marchla)
  | 0x28#8 => some (.p, .movinv (fieldP w))
  | 0x29#8 => some (.pdn, .retention (fieldP w) (fieldD w) (fieldN w))
  | 0x2A#8 => some (.pn, .readdestr (fieldP w) (fieldN w))
  | 0x2B#8 => some (.p, .addruniq (fieldP w))
  | 0x30#8 => some (.z, .suite)
  | 0x3F#8 => some (.z, .fullpass)
  | _ => none

/-- R127 lines 3 and 4: the command a word of `CMD` stands for, or why it stands for none. Decoding
depends on the word alone (R126). -/
def decode (w : Word64) : Except Reject Instr :=
  match rowOf w with
  | none => .error .badOpcode
  | some (f, i) => if w &&& f.mask = (fieldOp w).setWidth 64 then .ok i else .error .badParam

/-- R120: a command word from its fields; every other bit 0. -/
def packWord (op p : Byte) (t : Bool) (n : Byte) (d : BitVec 16) : Word64 :=
  0#16 ++ d ++ n ++ 0#7 ++ BitVec.ofBool t ++ p ++ op

/-- R121: the format of a command. -/
def Instr.format : Instr → Format
  | .nop | .activate | .deactivate | .clear => .z
  | .verifyData | .verifyAddr | .verifyCtrl | .sample | .crosstalk => .z
  | .repwrite _ _ => .pt
  | .repread _ => .p
  | .checker _ => .t
  | .walk1 | .walk0 | .marchc | .marchss | .marchla => .z
  | .movinv _ => .p
  | .retention _ _ _ => .pdn
  | .readdestr _ _ => .pn
  | .addruniq _ => .p
  | .suite | .fullpass => .z

/-- R123: the opcode of a command. -/
def Instr.opcode : Instr → Byte
  | .nop => 0x00#8
  | .activate => 0x01#8
  | .deactivate => 0x02#8
  | .clear => 0x03#8
  | .verifyData => 0x10#8
  | .verifyAddr => 0x11#8
  | .verifyCtrl => 0x12#8
  | .sample => 0x18#8
  | .crosstalk => 0x19#8
  | .repwrite _ _ => 0x20#8
  | .repread _ => 0x21#8
  | .checker _ => 0x22#8
  | .walk1 => 0x23#8
  | .walk0 => 0x24#8
  | .marchc => 0x25#8
  | .marchss => 0x26#8
  | .marchla => 0x27#8
  | .movinv _ => 0x28#8
  | .retention _ _ _ => 0x29#8
  | .readdestr _ _ => 0x2A#8
  | .addruniq _ => 0x2B#8
  | .suite => 0x30#8
  | .fullpass => 0x3F#8

/-- The word of a command: its opcode, its operands in the fields its format has, every other bit 0
(R120, R121, R124). -/
def encode (i : Instr) : Word64 :=
  match i with
  | .repwrite p t => packWord i.opcode p t 0#8 0#16
  | .repread p => packWord i.opcode p false 0#8 0#16
  | .checker t => packWord i.opcode 0#8 t 0#8 0#16
  | .movinv p => packWord i.opcode p false 0#8 0#16
  | .retention p d n => packWord i.opcode p false (BitVec.ofNat 8 n) (BitVec.ofNat 16 d)
  | .readdestr p n => packWord i.opcode p false (BitVec.ofNat 8 n) 0#16
  | .addruniq p => packWord i.opcode p false 0#8 0#16
  | .nop | .activate | .deactivate | .clear | .verifyData | .verifyAddr | .verifyCtrl | .sample
  | .crosstalk | .walk1 | .walk0 | .marchc | .marchss | .marchla | .suite | .fullpass =>
      packWord i.opcode 0#8 false 0#8 0#16

/-- The command register holds one 64-bit word, so a table word of `nbits` bits is that word with every
bit from `nbits` up equal to 0. -/
def tableWord (nbits w : Nat) : Word64 := BitVec.ofNat 64 (w % 2 ^ nbits)

/-- The instruction the decoder reads from the table word `w` of `nbits` bits. -/
def decodeTableWord (nbits w : Nat) : Option Instr :=
  match decode (tableWord nbits w) with
  | .ok i => some i
  | .error _ => none

end Sys2Proof
end

