-- ==== Sys2Proof/Config.lean ====
section
/-! DEFINITION. What an implementation of the engine fixes (00_scope.md rule R7; that none is an argument:
DEDUCED, log 23, safe), and the free values: what
the spec leaves to the environment or leaves unspecified. A free value is an opaque constant: nothing
in Lean can compute it, so a statement proved about it holds whatever it is. -/

namespace Sys2Proof

/-- R7 `REPEAT`: writes per cell in RepeatedWrite, reads per cell in RepeatedRead. -/
def Config.repeatCount : Nat := 5

/-- R7 `N_SUITE`: the calls of the suite. -/
def Config.suiteCalls : Nat := 19

/-- R7 `N_DRV`: the drivable positions of the unified signal space (90_conflicts.md C1). -/
def Config.drivableCount : Nat := 33

/-- R93: the largest legal `REGION_LENGTH`, the whole mapped space. -/
def Config.maxRegion : Nat := 65536

/-- R50: the terminal value of `POSK` in a memory pass ("plus the terminal value 65536"). -/
def Config.passEnd : Nat := 65536

/-- FREE VALUE (R96, 93_implementation_defined.md I6). What the environment answers to the `n`-th bus or
memory read of the run, for the reads that the list `State.answers` does not reach. A `DataRead` or a
`MemRead` takes its low 8 bits, an `AddrRead` all 16, a `CtlRead` bit 0. -/
opaque Config.envAnswer : Nat → BitVec 16

/-- FREE VALUE (R61, 93_implementation_defined.md I12). What the `n`-th host read of a result register
during a run returns ("an unspecified value", "a draw"); the low bits at the register's width. -/
opaque Config.midRunRead : Nat → BitVec 64

end Sys2Proof
end

