-- ==== Sys2Proof/Machine/State.lean ====
section
/-! DEFINITION. The state of the engine (10_state.md rule R20), as plain data: mode and status, pins,
configuration, region and labels, results, sequencer position and working registers; and, kept apart at
the end, the MODEL's own fields: the trace of rule R98, the environment's answers (R96) and the host's
pending actions and the replies they got (R58). -/

namespace Sys2Proof.Machine

/-- R21 `MODE`. -/
inductive Mode where
  | released | owned | halted
  deriving DecidableEq, Repr

/-- A direction of a bus or of a control signal (R12). -/
inductive Dir where
  | input | output
  deriving DecidableEq, Repr

/-- R31: the twelve control signals, in the spec's order. -/
inductive Sig where
  | ras | mux | cas | rd | wr | ioIn | ioOut | sysRes | intAck | int | test | wait
  deriving DecidableEq, Repr

/-- R31: the index `s` of a control signal. -/
def Sig.idx : Sig → Fin 12
  | .ras => 0 | .mux => 1 | .cas => 2 | .rd => 3 | .wr => 4 | .ioIn => 5 | .ioOut => 6
  | .sysRes => 7 | .intAck => 8 | .int => 9 | .test => 10 | .wait => 11

/-- R357: the refusal codes. Codes 9 to 15 do not exist. -/
inductive ErrCode where
  | none | busy | halted | badOpcode | badParam | badState | badConfig | badRegion | badReg
  deriving DecidableEq, Repr

/-- R351: the causes of the fatal halt; `none` is `FATAL` = 0. -/
inductive FatalCause where
  | none | alreadyActive | activateFailed | deactivateFailed
  deriving DecidableEq, Repr

/-- R30: the pin state, a latch and a direction for every line. -/
structure Pins where
  dataOut : Byte
  dataDir : Dir
  addrOut : Addr
  addrDir : Dir
  /-- `CTL_OUT[s]`, logical level: true is active -/
  ctlOut : Vector Bool 12
  ctlDir : Vector Dir 12
  deriving DecidableEq, Repr

/-- R37: the configuration registers. -/
structure Cfg where
  settleDelay : BitVec 16
  confirmDelay : BitVec 16
  confirmLoops : BitVec 16
  stuckPct : BitVec 7
  xtPct : BitVec 7
  actPct : BitVec 7
  retDelayMs : BitVec 16
  retRepeat : BitVec 8
  rdReads : BitVec 8
  deriving DecidableEq, Repr

/-- R40: the region registers. -/
structure Region where
  start : Addr
  length : Word32
  deriving DecidableEq, Repr

/-- R43, R133: a FaultRecord of a set of `w` lines. -/
structure FaultRecord (w : Nat) where
  stuckHigh : BitVec w
  stuckLow : BitVec w
  deriving DecidableEq, Repr

/-- R134: a TestResult, one counter per data bit and their total. -/
structure TestResult where
  total : Word32
  bit : Vector Word32 8
  deriving DecidableEq, Repr

/-- R48: one entry of the suite log. -/
structure SlogEntry where
  cmd : Word64
  result : TestResult
  deriving DecidableEq, Repr

/-- R43 to R48: the result registers. -/
structure Results where
  frd : FaultRecord 8
  fra : FaultRecord 16
  frc : FaultRecord 12
  /-- R44 `ISSUES` -/
  issues : BitVec 4
  xtSource : Word64
  xtDest : Word64
  xtBaseline : Word64
  snap : Word64
  tr : TestResult
  agg : TestResult
  aggFaultyMask : BitVec 8
  slogCount : BitVec 5
  slog : Vector SlogEntry 19
  deriving DecidableEq, Repr

/-- R50 `SEQ`, the sequencer position. Its components are indexes into the fixed text of the commands
(R56), so plain numbers; it has no address, no alignment and no wrap-around. The numbering is the model's:
DESIGN CHOICE (log 9), unsafe for a statement that names a value of `SEQ`. -/
structure Seq where
  /-- `FULLPASS` stage 0 to 7 -/
  stage : Nat
  /-- suite call 0 to 18 -/
  call : Nat
  /-- phase or pass number inside the current primitive command; 0 is its prologue -/
  phase : Nat
  /-- cell index `k`, or `Config.passEnd`; or the position 0 to 35 of a bus test -/
  posk : Nat
  /-- operation inside the per-cell list, or step inside a phase -/
  op : Nat
  /-- iteration of a confirmation loop or of a repeated read (READDESTR) -/
  sample : Nat
  deriving DecidableEq, Repr

/-- R51: the working registers, and (last five fields) the local variables `sh`, `sl`, `src`, `dst`,
`cancelled` of the pseudocode of R155, R161, R186 and R330, for which R51 names no register: DEDUCED (log 10),
safe. -/
structure Work where
  a : Addr
  pat : Byte
  exp : Byte
  /-- the value of the last bus read; 8, 16 or 1 bits, zero-extended -/
  rdv : BitVec 16
  bitix : BitVec 4
  cand : BitVec 16
  hits : BitVec 16
  u0 : Word64
  cur : Word64
  rdcnt : BitVec 8
  sh : BitVec 16
  sl : BitVec 16
  src : Word64
  dst : Word64
  cancelling : Bool
  deriving DecidableEq, Repr

/-- R98: one event of the trace; one per bus operation (R81), and the event of a reset (R390). -/
inductive Event where
  | dataDir (d : Dir)
  | dataWrite (v : Byte)
  | dataRead (v : Byte)
  | addrDir (d : Dir)
  | addrWrite (v : Addr)
  | addrRead (v : Addr)
  | ctlDir (g : Sig) (d : Dir)
  | ctlWrite (g : Sig) (b : Bool)
  | ctlRead (g : Sig) (b : Bool)
  | memRead (a : Addr) (v : Byte)
  | memWrite (a : Addr) (v : Byte)
  | delay (n : Nat)
  | delayMs (n : Nat)
  | reset
  deriving DecidableEq, Repr

/-- R58: what the host may do to the engine between two engine steps (R358), and `idle`: it does
nothing before the next engine step: DESIGN CHOICE (log 5), safe. A register value is carried in 64 bits:
DEDUCED (log 15), safe. -/
inductive HostAct where
  | idle
  | write (index : Nat) (value : Word64)
  | read (index : Nat)
  | reset
  deriving DecidableEq, Repr

/-- What a host read returned. -/
structure Reply where
  index : Nat
  value : Word64
  deriving DecidableEq, Repr

/-- The state of the engine and of the model around it. -/
structure State where
  /-- R21 -/
  mode : Mode
  /-- R22 -/
  busy : Bool
  /-- R23 -/
  done : Bool
  /-- R24 -/
  err : ErrCode
  /-- R25 -/
  fatal : FatalCause
  /-- R26 -/
  cancelReq : Bool
  /-- R26 -/
  cancelled : Bool
  /-- R27 -/
  progress : BitVec 7
  /-- R29 -/
  lastcmd : Word64
  pins : Pins
  cfg : Cfg
  region : Region
  /-- R41 `IC_REF[0..7]` -/
  icRef : Vector Word32 8
  res : Results
  seq : Seq
  work : Work
  /-- MODEL's own (R55, R98): the events so far, the latest first. DEDUCED (log 11), safe -/
  trace : List Event
  /-- MODEL's own (R96): what the environment answers to the next reads, the next one first.
  DESIGN CHOICE (log 2), safe -/
  answers : List (BitVec 16)
  /-- MODEL's own: reads answered so far; picks the free value once `answers` is used up -/
  answered : Nat
  /-- MODEL's own: unspecified host reads so far (R61); picks the next free value -/
  draws : Nat
  /-- MODEL's own (R58): the host's pending actions, the next one first -/
  host : List HostAct
  /-- MODEL's own (R58): what the host's reads returned, the latest first -/
  replies : List Reply
  deriving DecidableEq, Repr

/-- Where the machine stops. -/
inductive Fault where
  /-- Raised by an engine step in `MODE = HALTED` when the host has nothing pending. Safe: R352 makes the
  fatal halt "a state with no outgoing step except reset". DEDUCED (log 13). -/
  | halted
  deriving DecidableEq, Repr

/-- Why an instruction has no meaning. -/
inductive Refusal where
  /-- Raised by an arm of `exec` whose instruction has no meaning yet. Safe. No arm raises it now. -/
  | notModelled (mnemonic : String)
  /-- Raised by an engine step with `BUSY = 1` whose `LASTCMD` is no command word. Safe: no accepted word
  is one (R127, R129), so no reachable state raises it. DESIGN CHOICE (log 14). -/
  | lastcmdNotACommand
  deriving DecidableEq, Repr

/-- A vector of eight from its entries. -/
def vec8 {α : Type} (f : Fin 8 → α) : Vector α 8 := #v[f 0, f 1, f 2, f 3, f 4, f 5, f 6, f 7]

/-- A TestResult of zeros. -/
def TestResult.zero : TestResult := { total := 0#32, bit := vec8 fun _ => 0#32 }

/-- R48: an empty entry of the suite log reads 0. -/
def SlogEntry.zero : SlogEntry := { cmd := 0#64, result := .zero }

/-- R48: the empty suite log. -/
def Results.emptyLog : Vector SlogEntry 19 := Vector.replicate 19 .zero

/-- R60: every result register at its reset value; also what `CLEAR` leaves (R338). -/
def Results.zero : Results :=
  { frd := ⟨0#8, 0#8⟩, fra := ⟨0#16, 0#16⟩, frc := ⟨0#12, 0#12⟩, issues := 0#4,
    xtSource := 0#64, xtDest := 0#64, xtBaseline := 0#64, snap := 0#64,
    tr := .zero, agg := .zero, aggFaultyMask := 0#8, slogCount := 0#5, slog := Results.emptyLog }

/-- R37, R390: the configuration at reset. -/
def Cfg.reset : Cfg :=
  { settleDelay := 10#16, confirmDelay := 1#16, confirmLoops := 200#16, stuckPct := 100#7, xtPct := 80#7,
    actPct := 90#7, retDelayMs := 100#16, retRepeat := 10#8, rdReads := 5#8 }

/-- R391: the pins at reset: the buses and the control signals Input with latch 0 or inactive, but `INT`
and `WAIT` Output (driven inactive). -/
def Pins.reset : Pins :=
  { dataOut := 0#8, dataDir := .input, addrOut := 0#16, addrDir := .input,
    ctlOut := #v[false, false, false, false, false, false, false, false, false, false, false, false],
    ctlDir := #v[.input, .input, .input, .input, .input, .input, .input, .input, .input, .output, .input,
      .output] }

/-- R390: every component of `SEQ` is 0; also the start of a command. -/
def Seq.start : Seq := { stage := 0, call := 0, phase := 0, posk := 0, op := 0, sample := 0 }

/-- The working registers at reset. DESIGN CHOICE (notes/assumptions/1.md), unsafe: R51 and R390 leave them
unspecified; the model takes 0, and no rule reads one before writing it. -/
def Work.reset : Work :=
  { a := 0#16, pat := 0#8, exp := 0#8, rdv := 0#16, bitix := 0#4, cand := 0#16, hits := 0#16, u0 := 0#64,
    cur := 0#64, rdcnt := 0#8, sh := 0#16, sl := 0#16, src := 0#64, dst := 0#64, cancelling := false }

/-- R390: the machine right after reset, before anything has happened: no bus operation in the trace, no
answer known in advance, no host action pending. -/
def State.reset : State :=
  { mode := .released, busy := false, done := false, err := .none, fatal := .none,
    cancelReq := false, cancelled := false, progress := 0#7, lastcmd := 0#64,
    pins := .reset, cfg := .reset, region := { start := 0#16, length := 0#32 },
    icRef := vec8 fun _ => 0#32, res := .zero, seq := .start, work := .reset,
    trace := [], answers := [], answered := 0, draws := 0, host := [], replies := [] }

end Sys2Proof.Machine
end

