-- ==== Sys2Proof/Machine/Flags.lean ====
section
/-! DEFINITION. Every flag computation of the engine: the `ISSUES` flags (10_state.md rule R44), its only flags,
the error code and fatal code numbers (60_exceptions.md rules R351 and R357), and the packing of `STATUS`
(10_state.md rule R28) and of `CONTROL`. -/

namespace Sys2Proof.Machine

/-- Bit `k` of a word set to `b`, every other bit as it was. -/
def setBitTo {w : Nat} (v : BitVec w) (k : Nat) (b : Bool) : BitVec w :=
  if b then v ||| (1#w <<< k) else v &&& ~~~(1#w <<< k)

/-- R44: `has_issues` of a FaultRecord is "some mask bit set". -/
def FaultRecord.hasIssues {w : Nat} (r : FaultRecord w) : Bool := (r.stuckHigh ||| r.stuckLow) != 0#w

/-- R44: `has_issues` of the CrosstalkResult is `XT_SOURCE != 0`. -/
def crosstalkIssues (source : Word64) : Bool := source != 0#64

/-- R44: the bits of `ISSUES`. -/
def issueData : Nat := 0
/-- R44 -/
def issueAddr : Nat := 1
/-- R44 -/
def issueCtrl : Nat := 2
/-- R44 -/
def issueXt : Nat := 3

/-- R357: the number of a refusal code. -/
def ErrCode.code : ErrCode → BitVec 4
  | .none => 0#4
  | .busy => 1#4
  | .halted => 2#4
  | .badOpcode => 3#4
  | .badParam => 4#4
  | .badState => 5#4
  | .badConfig => 6#4
  | .badRegion => 7#4
  | .badReg => 8#4

/-- R351: the number of a cause of the fatal halt. -/
def FatalCause.code : FatalCause → BitVec 2
  | .none => 0#2
  | .alreadyActive => 1#2
  | .activateFailed => 2#2
  | .deactivateFailed => 3#2

/-- The `HALT` bit and level output (R28, R58): 1 iff `MODE = HALTED`. -/
def State.haltOut (s : State) : Bool := decide (s.mode = .halted)

/-- The `OWNED` bit (R28): 1 iff `MODE = OWNED`. -/
def State.ownedBit (s : State) : Bool := decide (s.mode = .owned)

/-- R28 `STATUS`: a packing, not separate state. -/
def State.status (s : State) : Word32 :=
  0#18 ++ s.fatal.code ++ s.err.code ++ 0#2 ++ BitVec.ofBool s.cancelReq ++ BitVec.ofBool s.cancelled
    ++ BitVec.ofBool s.ownedBit ++ BitVec.ofBool s.haltOut ++ BitVec.ofBool s.done ++ BitVec.ofBool s.busy

/-- R60, R62 `CONTROL` as read: `CANCEL_REQ` in bit 0, 0 elsewhere. -/
def State.control (s : State) : Word32 := 0#31 ++ BitVec.ofBool s.cancelReq

/-- R58: the level output `BUSY`. -/
def State.busyOut (s : State) : Bool := s.busy

/-- R58: the level output `DONE`. -/
def State.doneOut (s : State) : Bool := s.done

end Sys2Proof.Machine
end

