-- ==== Sys2Proof/Machine/Ops.lean ====
section
/-! DEFINITION. The named operations over the state: the bus and memory primitives (20_memory.md rules R81 to
R88), acceptance and completion of a command (30_encoding.md rules R127 to R130), the refusal and the
fatal halt (60_exceptions.md rules R352 and R356) with the reset that alone leaves it (R353, R390), the
confirmation loop (00_scope.md rule R14), and the frame every command's meaning stands in. -/

namespace Sys2Proof.Machine

/-! ### Updates of one field -/

/-- The pins replaced. -/
def State.setPins (s : State) (p : Pins) : State := { s with pins := p }

/-- The working registers replaced. -/
def State.setWork (s : State) (w : Work) : State := { s with work := w }

/-- The result registers replaced. -/
def State.setRes (s : State) (r : Results) : State := { s with res := r }

/-- `SEQ <- q`: a control transfer (R11, R50). -/
def State.setSeq (s : State) (q : Seq) : State := { s with seq := q }

/-- `MODE <- m`. -/
def State.setMode (s : State) (m : Mode) : State := { s with mode := m }

/-- `PROGRESS <- v`. -/
def State.setProgress (s : State) (v : BitVec 7) : State := { s with progress := v }

/-- R98: one event appended to the trace. -/
def State.emit (s : State) (e : Event) : State := { s with trace := e :: s.trace }

/-- On to step `o` of the current phase. -/
def State.gotoOp (s : State) (o : Nat) : State := s.setSeq { s.seq with op := o }

/-! ### The environment's answers (R96) -/

/-- R96: the environment's answer to the next read: any value. It is the head of `answers`, or the free
value when that list is used up. -/
def State.answer (s : State) : BitVec 16 :=
  match s.answers with
  | [] => Config.envAnswer s.answered
  | a :: _ => a

/-- The next read has been answered. -/
def State.consume (s : State) : State :=
  { s with answers := s.answers.tail, answered := s.answered + 1 }

/-! ### The bus operations (R81): each one event, and no other effect than its rule gives (R85) -/

/-- R82 -/
def dataDir (d : Dir) (s : State) : State :=
  (s.setPins { s.pins with dataDir := d }).emit (.dataDir d)

/-- R82 -/
def dataWrite (v : Byte) (s : State) : State :=
  (s.setPins { s.pins with dataOut := v }).emit (.dataWrite v)

/-- R82: the eight lines as the environment reports them; the value is left in `RDV`. -/
def dataRead (s : State) : State :=
  (s.consume.setWork { s.work with rdv := (s.answer.setWidth 8).setWidth 16 }).emit
    (.dataRead (s.answer.setWidth 8))

/-- R83 -/
def addrDir (d : Dir) (s : State) : State :=
  (s.setPins { s.pins with addrDir := d }).emit (.addrDir d)

/-- R83 -/
def addrWrite (v : Addr) (s : State) : State :=
  (s.setPins { s.pins with addrOut := v }).emit (.addrWrite v)

/-- R83: as `dataRead`, sixteen lines. -/
def addrRead (s : State) : State :=
  (s.consume.setWork { s.work with rdv := s.answer }).emit (.addrRead s.answer)

/-- R84: `CTL_DIR[s]` as read. -/
def Pins.dirOf (p : Pins) (g : Sig) : Dir := p.ctlDir.get g.idx

/-- R84: `CTL_OUT[s]` as read. -/
def Pins.outOf (p : Pins) (g : Sig) : Bool := p.ctlOut.get g.idx

/-- R84 -/
def ctlDir (g : Sig) (d : Dir) (s : State) : State :=
  (s.setPins { s.pins with ctlDir := s.pins.ctlDir.set g.idx.val d g.idx.isLt }).emit (.ctlDir g d)

/-- R84, R86: `b` is the logical level, true is active. -/
def ctlWrite (g : Sig) (b : Bool) (s : State) : State :=
  (s.setPins { s.pins with ctlOut := s.pins.ctlOut.set g.idx.val b g.idx.isLt }).emit (.ctlWrite g b)

/-- R84, R86: the logical level as the environment reports it, left in `RDV` as 0 or 1. -/
def ctlRead (g : Sig) (s : State) : State :=
  (s.consume.setWork { s.work with rdv := (BitVec.ofBool (s.answer.getLsbD 0)).setWidth 16 }).emit
    (.ctlRead g (s.answer.getLsbD 0))

/-- R88: the byte the environment reports for mapped address `a`, left in `RDV`. -/
def memRead (a : Addr) (s : State) : State :=
  (s.consume.setWork { s.work with rdv := (s.answer.setWidth 8).setWidth 16 }).emit
    (.memRead a (s.answer.setWidth 8))

/-- R88: byte `v` presented for mapped address `a`. The engine holds no memory
(R55): DEDUCED (log 3), safe. That the pins stay is the BusInterface's part (R89): DEDUCED (log 17), unsafe. -/
def memWrite (a : Addr) (v : Byte) (s : State) : State := s.emit (.memWrite a v)

/-- R87: an event; the model has no time (R411): DEDUCED (log 18), safe. -/
def delay (n : Nat) (s : State) : State := s.emit (.delay n)

/-- R87 -/
def delayMs (n : Nat) (s : State) : State := s.emit (.delayMs n)

/-- The `bool` the last `CtlRead` returned. -/
def State.readTrue (s : State) : Bool := s.work.rdv.getLsbD 0

/-- `Delay(CFG_SETTLE_DELAY)`. -/
def settle (s : State) : State := delay s.cfg.settleDelay.toNat s

/-! ### Refusal, fatal halt, reset -/

/-- R356 `refuse(code)`: `ERR <- code` and nothing else. -/
def refuse (c : ErrCode) (s : State) : State := { s with err := c }

/-- R352 `raise Fatal(cause)`: the engine's one exception. `FATAL` and `MODE` change; `BUSY` stays, the pins
and every register keep their value, `SEQ` freezes where it stands. There is no handler and no saved
position. -/
def raiseFatal (c : FatalCause) (s : State) : State := { s with fatal := c, mode := .halted }

/-- R353, R390, R391: the reset input, the only way out of `HALTED`: every register and every pin to its
reset value, from any state. What is not the engine's stays: the trace (the reset is an event of its
own), the environment's answers, the host's actions and replies: DEDUCED (log 12), safe. -/
def resetEngine (s : State) : State :=
  { State.reset with
    trace := .reset :: s.trace, answers := s.answers, answered := s.answered, draws := s.draws,
    host := s.host, replies := s.replies }

/-! ### Acceptance (R127 to R129) -/

/-- R128: the modes in which a command is legal. -/
def modeAllows (i : Instr) (m : Mode) : Bool :=
  match i with
  | .activate | .fullpass => decide (m = .released)
  | .nop | .clear | .sample => decide (m = .released) || decide (m = .owned)
  | .deactivate | .verifyData | .verifyAddr | .verifyCtrl | .crosstalk => decide (m = .owned)
  | .repwrite _ _ | .repread _ | .checker _ | .walk1 | .walk0 => decide (m = .owned)
  | .marchc | .marchss | .marchla | .movinv _ | .retention _ _ _ => decide (m = .owned)
  | .readdestr _ _ | .addruniq _ | .suite => decide (m = .owned)

/-- R38: a legal `CFG_CONFIRM_LOOPS`. -/
def Cfg.loopsLegal (c : Cfg) : Bool := decide (1 ≤ c.confirmLoops.toNat)

/-- R38: a legal percentage. -/
def pctLegal (p : BitVec 7) : Bool := decide (1 ≤ p.toNat) && decide (p.toNat ≤ 100)

/-- R359: the configuration check group of a command. -/
def configLegal (i : Instr) (c : Cfg) : Bool :=
  match i with
  | .activate | .deactivate => c.loopsLegal && pctLegal c.actPct
  | .verifyData | .verifyAddr | .verifyCtrl => c.loopsLegal && pctLegal c.stuckPct
  | .crosstalk => c.loopsLegal && pctLegal c.xtPct
  | .fullpass => c.loopsLegal && pctLegal c.actPct && pctLegal c.stuckPct && pctLegal c.xtPct
  | .nop | .clear | .sample => true
  | .repwrite _ _ | .repread _ | .checker _ | .walk1 | .walk0 => true
  | .marchc | .marchss | .marchla | .movinv _ | .retention _ _ _ => true
  | .readdestr _ _ | .addruniq _ | .suite => true

/-- R123: whether a command's acceptance checks `REGION_LENGTH`. -/
def usesRegion (i : Instr) : Bool :=
  match i with
  | .nop | .activate | .deactivate | .clear => false
  | .verifyData | .verifyAddr | .verifyCtrl | .sample | .crosstalk => false
  | .repwrite _ _ | .repread _ | .checker _ | .walk1 | .walk0 => true
  | .marchc | .marchss | .marchla | .movinv _ | .retention _ _ _ => true
  | .readdestr _ _ | .addruniq _ | .suite | .fullpass => true

/-- R93: a legal region. -/
def Region.legal (r : Region) : Bool := decide (r.length.toNat ≤ Config.maxRegion)

/-- R129: acceptance of the command of word `w`. -/
def accept (w : Word64) (s : State) : State :=
  { s with lastcmd := w, busy := true, done := false, cancelled := false, cancelReq := false,
           err := .none, progress := 0#7, seq := .start }

/-- R127 lines 5 to 8: a decoded command presented to an idle engine, the first matching line deciding. -/
def present (i : Instr) (s : State) : State :=
  if !modeAllows i s.mode then refuse .badState s
  else if !configLegal i s.cfg then refuse .badConfig s
  else if usesRegion i && !s.region.legal then refuse .badRegion s
  else accept (encode i) s

/-! ### Completion (R130) -/

/-- R130: normal completion. -/
def complete (s : State) : State :=
  { s with busy := false, done := true, cancelReq := false, progress := 100#7 }

/-- R130, R335: completion of a cancelled command; `PROGRESS` keeps its last value. -/
def completeCancelled (s : State) : State :=
  { s with busy := false, done := true, cancelReq := false, cancelled := true }

/-! ### One step of a running command -/

/-- What one engine step of a command's body (R330: its pseudocode without acceptance, completion and,
inside a composite, `PROGRESS`) comes to. Where a step ends is DESIGN CHOICE (log 7), unsafe: a statement
that counts steps holds of the model alone. -/
inductive BodyStep where
  /-- the body goes on from `SEQ` -/
  | more (s : State)
  /-- the body has ended -/
  | ended (s : State)
  /-- the body has ended at one of its cancel points (R335) -/
  | cancelled (s : State)
  /-- the body has raised the fatal halt (R352) -/
  | fatal (s : State)
  deriving DecidableEq, Repr

/-- A stand-alone command after one step of its body. -/
def finish (r : BodyStep) : State :=
  match r with
  | .more s => s
  | .ended s => complete s
  | .cancelled s => completeCancelled s
  | .fatal s => s

/-- The engine's next step with command `i`, whose body is `body`. In `HALTED` there is none (R352). With no
command running, `i` is presented (R127); while it runs, its body takes one step: at most one bus
operation (R9, R99). -/
def command (i : Instr) (body : State → BodyStep) (s : State) : Host.Outcome State Fault Refusal :=
  if s.mode = .halted then .fault .halted
  else if s.busy then .next (finish (body s))
  else .next (present i s)

/-- R27: `PROGRESS <- floor(100 * j / n)` when phase `j` of `n` ends; only the outermost command writes it. -/
def phaseEnd (top : Bool) (j n : Nat) (s : State) : State :=
  if top then s.setProgress (BitVec.ofNat 7 (100 * j / n)) else s

/-- On to phase `p`, at position `k`, first step. -/
def State.gotoPhase (s : State) (p k : Nat) : State :=
  s.setSeq { s.seq with phase := p, posk := k, op := 0, sample := 0 }

/-- On to position `k`, step `o` of the current phase. -/
def State.gotoPos (s : State) (k o : Nat) : State :=
  s.setSeq { s.seq with posk := k, op := o, sample := 0 }

/-! ### The confirmation loop (R14) -/

/-- The loop's start: `hits <- 0`, no sample taken. -/
def startConfirm (s : State) : State :=
  (s.setWork { s.work with hits := 0#16 }).setSeq { s.seq with sample := 0 }

/-- R14: samples remain. -/
def State.sampling (s : State) : Bool := decide (s.seq.sample < s.cfg.confirmLoops.toNat)

/-- R14: the delay before each sample. -/
def confirmWait (s : State) : State := delay s.cfg.confirmDelay.toNat s

/-- R14: one sample taken, a hit or not. -/
def countSample (hit : Bool) (s : State) : State :=
  (s.setWork { s.work with hits := if hit then s.work.hits + 1#16 else s.work.hits }).setSeq
    { s.seq with sample := s.seq.sample + 1 }

/-- R14: `hits * 100 >= pct * CFG_CONFIRM_LOOPS`, over the natural numbers. -/
def State.confirmed (s : State) (pct : BitVec 7) : Bool :=
  decide (pct.toNat * s.cfg.confirmLoops.toNat ≤ s.work.hits.toNat * 100)

end Sys2Proof.Machine
end

