-- ==== Sys2Proof/Machine/Activation.lean ====
section
/-! DEFINITION. The activation protocol of the `TEST` signal (43_activation.md): ACTIVATE, DEACTIVATE. The only
commands that drive `TEST` (R210), and the only ones that raise the fatal halt. -/

namespace Sys2Proof.Machine

/-- R212: one step of the body of `ACTIVATE`. Steps 0 and 1 are (a), one sample with `TEST` as plain input;
step 2 decides it and, if `TEST` is free, begins (b); steps 4 and 5 are the confirmation loop. -/
def activateBody (s : State) : BodyStep :=
  match s.seq.op with
  | 0 => .more ((ctlDir .test .input s).gotoOp 1)
  | 1 => .more ((ctlRead .test s).gotoOp 2)
  | 2 =>
    if s.readTrue then .fatal (raiseFatal .alreadyActive s)
    else .more ((ctlDir .test .output s).gotoOp 3)
  | 3 => .more ((startConfirm (ctlWrite .test true s)).gotoOp 4)
  | 4 =>
    if s.sampling then .more ((confirmWait s).gotoOp 5)
    else if s.confirmed s.cfg.actPct then .ended (s.setMode .owned)
    else .fatal (raiseFatal .activateFailed s)
  | _ =>
    let t := ctlRead .test s
    .more ((countSample t.readTrue t).gotoOp 4)

/-- R215: one step of the body of `DEACTIVATE`. The confirmation (steps 1 and 2) runs while the pin is still
driven inactive; step 3 ends it, once the pin is released. -/
def deactivateBody (s : State) : BodyStep :=
  match s.seq.op with
  | 0 => .more ((startConfirm (ctlWrite .test false s)).gotoOp 1)
  | 1 =>
    if s.sampling then .more ((confirmWait s).gotoOp 2)
    else if s.confirmed s.cfg.actPct then .more ((ctlDir .test .input s).gotoOp 3)
    else .fatal (raiseFatal .deactivateFailed s)
  | 2 =>
    let t := ctlRead .test s
    .more ((countSample (!t.readTrue) t).gotoOp 1)
  | _ => .ended (s.setMode .released)

/-- `ACTIVATE` (R212). -/
def execActivate (s : State) : Host.Outcome State Fault Refusal := command .activate activateBody s

/-- `DEACTIVATE` (R215). -/
def execDeactivate (s : State) : Host.Outcome State Fault Refusal := command .deactivate deactivateBody s

end Sys2Proof.Machine
end

