-- ==== Sys2Proof/Machine/Crosstalk.lean ====
section
/-! DEFINITION. The signal-snapshot packer and the crosstalk detector (42_crosstalk.md): SAMPLE, CROSSTALK. -/

namespace Sys2Proof.Machine

/-! ### The snapshot packer (R182) -/

/-- R182: the control signals in the order a snapshot reads them. -/
def snapSig (k : Nat) : Sig :=
  match k with
  | 0 => .ras
  | 1 => .mux
  | 2 => .cas
  | 3 => .rd
  | 4 => .wr
  | 5 => .ioIn
  | 6 => .ioOut
  | 7 => .sysRes
  | 8 => .intAck
  | 9 => .int
  | 10 => .test
  | _ => .wait

/-- R182: the reads of a snapshot. -/
def snapReads : Nat := 14

/-- R182: the `k`-th of the fourteen reads, its bits put into the snapshot assembled in `CUR`: address at
0, data at 16, control signal `s` at `24 + s`. -/
def snapRead (k : Nat) (s : State) : State :=
  match k with
  | 0 =>
    let t := addrRead s
    t.setWork { t.work with cur := t.work.rdv.setWidth 64 }
  | 1 =>
    let t := dataRead s
    t.setWork { t.work with cur := t.work.cur ||| (t.work.rdv.setWidth 64 <<< 16) }
  | k + 2 =>
    let t := ctlRead (snapSig k) s
    t.setWork { t.work with
      cur := t.work.cur ||| ((BitVec.ofBool t.readTrue).setWidth 64 <<< (24 + (snapSig k).idx.val)) }

/-- R182: the snapshot of sixteen address bits, eight data bits and twelve control bits. -/
def packSnapshot (a : Addr) (d : Byte) (c : BitVec 12) : Word64 := 0#28 ++ c ++ d ++ a

/-- R183: one step of the body of `SAMPLE`: steps 0 to 13 are the reads. -/
def sampleBody (s : State) : BodyStep :=
  if s.seq.op < snapReads then .more ((snapRead s.seq.op s).gotoOp (s.seq.op + 1))
  else .ended (s.setRes { s.res with snap := s.work.cur })

/-! ### Driving one position (R184, R185) -/

/-- R184: the drivable positions, in the order they are visited. -/
def drivable : List Nat :=
  [0, 1, 2, 3, 4, 5, 6, 7, 8, 9, 10, 11, 12, 13, 14, 15, 16, 17, 18, 19, 20, 21, 22, 23, 24, 25, 26, 27, 28,
    29, 30, 33, 35]

/-- R132 `pos_mask(p)`. -/
def posMask (p : Nat) : Word64 := 1#64 <<< p

/-- How a position is driven: by its bus, as a signal of class G, or as a write-only signal (R185). -/
inductive Driver where
  | addrLine (i : Nat)
  | dataLine (i : Nat)
  | generic (g : Sig)
  | writeOnly (g : Sig)
  deriving DecidableEq, Repr

/-- R131, R185: the driver of a drivable position. -/
def driverOf (p : Nat) : Driver :=
  if p < 16 then .addrLine p
  else if p < 24 then .dataLine (p - 16)
  else match p with
    | 24 => .generic .ras
    | 25 => .generic .mux
    | 26 => .generic .cas
    | 27 => .generic .rd
    | 28 => .generic .wr
    | 29 => .generic .ioIn
    | 30 => .generic .ioOut
    | 33 => .writeOnly .int
    | _ => .writeOnly .wait

/-- R185: the first bus operation of `Drive(p)`; the direction, or, of a write-only signal, the level. -/
def driveFirst (p : Nat) (s : State) : State :=
  match driverOf p with
  | .addrLine _ => addrDir .output s
  | .dataLine _ => dataDir .output s
  | .generic g => ctlDir g .output s
  | .writeOnly g => ctlWrite g true s

/-- R185: the second bus operation of `Drive(p)`. A write-only signal has none. -/
def driveSecond (p : Nat) (s : State) : State :=
  match driverOf p with
  | .addrLine i => addrWrite (1#16 <<< i) s
  | .dataLine i => dataWrite (1#8 <<< i) s
  | .generic g => ctlWrite g true s
  | .writeOnly _ => s

/-- R185: the first bus operation of `Release(p)`; the latch 0 or inactive. -/
def releaseFirst (p : Nat) (s : State) : State :=
  match driverOf p with
  | .addrLine _ => addrWrite 0#16 s
  | .dataLine _ => dataWrite 0#8 s
  | .generic g => ctlWrite g false s
  | .writeOnly g => ctlWrite g false s

/-- R185: the second bus operation of `Release(p)`. A write-only signal stays an output. -/
def releaseSecond (p : Nat) (s : State) : State :=
  match driverOf p with
  | .addrLine _ => addrDir .input s
  | .dataLine _ => dataDir .input s
  | .generic g => ctlDir g .input s
  | .writeOnly _ => s

/-- R185: whether a position is driven in two bus operations. -/
def twoStep (p : Nat) : Bool :=
  match driverOf p with
  | .writeOnly _ => false
  | _ => true

/-! ### The detector (R186) -/

/-- R187: the unexpected changes of snapshot `cur` while position `p` is driven. -/
def unexpected (cur baseline : Word64) (p : Nat) : Word64 := (cur ^^^ baseline) &&& ~~~posMask p

/-- R190: the crosstalk result and its `ISSUES` bit written (R44: together). -/
def writeXt (src dst : Word64) (s : State) : State :=
  s.setRes { s.res with
    xtSource := src, xtDest := dst
    issues := setBitTo s.res.issues issueXt (crosstalkIssues src) }

/-- Into the `j`-th position of the list (counted from 0), phase `j + 1`. -/
def enterPosition (j : Nat) (s : State) : State := s.gotoPhase (j + 1) (drivable.getD j 36)

/-- R186: the prologue, steps 0 to 15: results cleared, the baseline taken, no finding yet. -/
def xtPrologue (s : State) : State :=
  if s.seq.op = 0 then
    (writeXt 0#64 0#64 s).gotoOp 1
  else if s.seq.op ≤ snapReads then (snapRead (s.seq.op - 1) s).gotoOp (s.seq.op + 1)
  else
    enterPosition 0 ((s.setRes { s.res with xtBaseline := s.work.cur }).setWork
      { s.work with src := 0#64, dst := 0#64 })

/-- R188: the trigger, after the first snapshot: no finding, or the confirmation loop. -/
def xtTrigger (s : State) : State :=
  let u := unexpected s.work.cur s.res.xtBaseline s.seq.posk
  let t := s.setWork { s.work with u0 := u }
  if u = 0#64 then t.gotoOp 33 else (startConfirm t).gotoOp 18

/-- R189: the confirmation loop is over; a confirmed finding enters both masks. -/
def xtDecide (s : State) : State :=
  (if s.confirmed s.cfg.xtPct then
    s.setWork { s.work with
      src := s.work.src ||| posMask s.seq.posk
      dst := s.work.dst ||| s.work.u0 }
  else s).gotoOp 33

/-- R189: the last read of a confirmation snapshot, and the count of the sample. -/
def xtSample (s : State) : State :=
  let t := snapRead 13 s
  (countSample (unexpected t.work.cur t.res.xtBaseline t.seq.posk != 0#64) t).gotoOp 18

/-- R186: the position is done: `PROGRESS`, then the next position or the end. -/
def xtNext (top : Bool) (s : State) : BodyStep :=
  if s.seq.phase < Config.drivableCount then
    .more (enterPosition s.seq.phase (phaseEnd top s.seq.phase Config.drivableCount s))
  else
    .ended (writeXt s.work.src s.work.dst (phaseEnd top 1 1 s))

/-- R186: the steps of one position. 0: the cancel point (R192) and the first operation of `Drive`; 1: its
second; 2: the settle delay; 3 to 16: the reads of the snapshot; 17: the trigger; 18: the delay before a
confirmation sample, or the decision; 19 to 32: the reads of the sample; 33, 34: `Release`; 35: done.
Where the cancel point reads: DEDUCED (log 8), unsafe. -/
def xtPosition (top : Bool) (s : State) : BodyStep :=
  if s.seq.op = 0 then
    if s.cancelReq then .cancelled (writeXt s.work.src s.work.dst s)
    else .more ((driveFirst s.seq.posk s).gotoOp (if twoStep s.seq.posk then 1 else 2))
  else if s.seq.op = 1 then .more ((driveSecond s.seq.posk s).gotoOp 2)
  else if s.seq.op = 2 then .more ((settle s).gotoOp 3)
  else if s.seq.op ≤ 16 then .more ((snapRead (s.seq.op - 3) s).gotoOp (s.seq.op + 1))
  else if s.seq.op = 17 then .more (xtTrigger s)
  else if s.seq.op = 18 then
    .more (if s.sampling then (confirmWait s).gotoOp 19 else xtDecide s)
  else if s.seq.op ≤ 31 then .more ((snapRead (s.seq.op - 19) s).gotoOp (s.seq.op + 1))
  else if s.seq.op = 32 then .more (xtSample s)
  else if s.seq.op = 33 then
    .more ((releaseFirst s.seq.posk s).gotoOp (if twoStep s.seq.posk then 34 else 35))
  else if s.seq.op = 34 then .more ((releaseSecond s.seq.posk s).gotoOp 35)
  else xtNext top s

/-- R186: one step of the body of `CROSSTALK`. -/
def crosstalkBody (top : Bool) (s : State) : BodyStep :=
  match s.seq.phase with
  | 0 => .more (xtPrologue s)
  | _ + 1 => xtPosition top s

/-- `SAMPLE` (R183). -/
def execSample (s : State) : Host.Outcome State Fault Refusal := command .sample sampleBody s

/-- `CROSSTALK` (R186). -/
def execCrosstalk (s : State) : Host.Outcome State Fault Refusal :=
  command .crosstalk (crosstalkBody true) s

end Sys2Proof.Machine
end

