-- ==== Sys2Proof/Machine/StuckAt.lean ====
section
/-! DEFINITION. The bus stuck-at tester (41_stuck_at.md): VERIFY_DATA, VERIFY_ADDR, VERIFY_CTRL. `PHASE` 0 is
the prologue, phases 1 to 4 are the four steps of rule R150; `POSK` is the position of the line. -/

namespace Sys2Proof.Machine

/-! ### The data and the address bus: one procedure, R155 and R158 -/

/-- The two buses R155 and R158 test in the same way. -/
inductive Bus where
  | data | address
  deriving DecidableEq, Repr

/-- The number of lines (R7). -/
def Bus.width : Bus → Nat
  | .data => 8
  | .address => 16

/-- R131: the position of line 0. -/
def Bus.base : Bus → Nat
  | .data => 16
  | .address => 0

/-- All lines 1, in the 16 bits a working register has. -/
def Bus.ones : Bus → BitVec 16
  | .data => 0x00FF#16
  | .address => 0xFFFF#16

/-- `DataDir` or `AddrDir`. -/
def busDir (b : Bus) (d : Dir) (s : State) : State :=
  match b with
  | .data => dataDir d s
  | .address => addrDir d s

/-- `DataWrite` or `AddrWrite`. -/
def busWrite (b : Bus) (v : BitVec 16) (s : State) : State :=
  match b with
  | .data => dataWrite (v.setWidth 8) s
  | .address => addrWrite v s

/-- `DataRead` or `AddrRead`. -/
def busRead (b : Bus) (s : State) : State :=
  match b with
  | .data => dataRead s
  | .address => addrRead s

/-- The FaultRecord of a bus and its `ISSUES` bit written (R44: together). -/
def writeBusRecord (b : Bus) (high low : BitVec 16) (s : State) : State :=
  match b with
  | .data =>
    s.setRes { s.res with
      frd := ⟨high.setWidth 8, low.setWidth 8⟩
      issues := setBitTo s.res.issues issueData
        (FaultRecord.hasIssues (⟨high.setWidth 8, low.setWidth 8⟩ : FaultRecord 8)) }
  | .address =>
    s.setRes { s.res with
      fra := ⟨high, low⟩
      issues := setBitTo s.res.issues issueAddr (FaultRecord.hasIssues (⟨high, low⟩ : FaultRecord 16)) }

/-- The line that `POSK` is at. -/
def busLine (b : Bus) (s : State) : Nat := s.seq.posk - b.base

/-- R151: into the confirmation at line `line` of `width`, position `pos`. The confirmation loop of a candidate
begins there (R14: `hits <- 0`); for a line that is no candidate, and after the last line, there is none. -/
def enterLine (line width pos : Nat) (s : State) : State :=
  if line < width ∧ s.work.cand.getLsbD line = true then startConfirm (s.gotoPos pos 0) else s.gotoPos pos 0

/-- R150 step 1, drive low: the bits read as 1 are the candidates. -/
def verifyDriveLow (b : Bus) (top : Bool) (s : State) : State :=
  match s.seq.op with
  | 0 => (busDir b .output s).gotoOp 1
  | 1 => (busWrite b 0#16 s).gotoOp 2
  | 2 => (settle s).gotoOp 3
  | _ =>
    let t := busRead b s
    enterLine 0 b.width b.base ((phaseEnd top 1 4
      (t.setWork { t.work with cand := t.work.rdv, sh := 0#16 })).gotoPhase 2 b.base)

/-- R151: on to the next line of the confirmation. -/
def verifyNextLine (b : Bus) (s : State) : State := enterLine (busLine b s + 1) b.width (s.seq.posk + 1) s

/-- R151: the confirmation loop of the candidate at `POSK` is over. -/
def verifyDecide (b : Bus) (s : State) : State :=
  verifyNextLine b (if s.confirmed s.cfg.stuckPct then
    s.setWork { s.work with sh := setBitTo s.work.sh (busLine b s) true } else s)

/-- R150 step 2, R151, confirmation: each candidate in ascending order with a loop of its own. -/
def verifyConfirm (b : Bus) (top : Bool) (s : State) : State :=
  match s.seq.op with
  | 0 =>
    if b.width ≤ busLine b s then (phaseEnd top 2 4 s).gotoPhase 3 b.base
    else if !s.work.cand.getLsbD (busLine b s) then verifyNextLine b s
    else if s.sampling then (confirmWait s).gotoOp 1
    else verifyDecide b s
  | _ =>
    let t := busRead b s
    (countSample (t.work.rdv.getLsbD (busLine b s)) t).gotoOp 0

/-- R150 step 3, R153, drive high: a bit read as 0 is stuck low, on one sample. -/
def verifyDriveHigh (b : Bus) (top : Bool) (s : State) : State :=
  match s.seq.op with
  | 0 => (busWrite b b.ones s).gotoOp 1
  | 1 => (settle s).gotoOp 2
  | _ =>
    let t := busRead b s
    (phaseEnd top 3 4 (t.setWork { t.work with sl := ~~~t.work.rdv &&& b.ones })).gotoPhase 4 b.base

/-- R150 step 4, cleanup: latch 0 first, then the bus an input again; then the record is written. -/
def verifyCleanup (b : Bus) (s : State) : BodyStep :=
  match s.seq.op with
  | 0 => .more ((busWrite b 0#16 s).gotoOp 1)
  | 1 => .more ((busDir b .input s).gotoOp 2)
  | _ => .ended (writeBusRecord b s.work.sh s.work.sl s)

/-- R155, R158: one step of the test of a bus. -/
def verifyBusBody (b : Bus) (top : Bool) (s : State) : BodyStep :=
  match s.seq.phase with
  | 0 => .more ((writeBusRecord b 0#16 0#16 s).gotoPhase 1 b.base)
  | 1 => .more (verifyDriveLow b top s)
  | 2 => .more (verifyConfirm b top s)
  | 3 => .more (verifyDriveHigh b top s)
  | _ => verifyCleanup b s

/-! ### The control set (R160 to R164) -/

/-- R161 `G`, at positions 24 to 30. -/
def sigG (pos : Nat) : Sig :=
  match pos - 24 with
  | 0 => .ras
  | 1 => .mux
  | 2 => .cas
  | 3 => .rd
  | 4 => .wr
  | 5 => .ioIn
  | _ => .ioOut

/-- R161 `W`, at positions 33 and 35. -/
def sigW (pos : Nat) : Sig := if pos = 33 then .int else .wait

/-- R161 `RO`, at positions 31 and 32. -/
def sigRO (pos : Nat) : Sig := if pos = 31 then .sysRes else .intAck

/-- The control FaultRecord and its `ISSUES` bit written (R44: together). -/
def writeCtrlRecord (high low : BitVec 12) (s : State) : State :=
  s.setRes { s.res with
    frc := ⟨high, low⟩
    issues := setBitTo s.res.issues issueCtrl (FaultRecord.hasIssues (⟨high, low⟩ : FaultRecord 12)) }

/-- On to the next signal of `G`, or, after the last, to step `o` with `G` begun again. -/
def nextG (o : Nat) (s : State) : State :=
  if s.seq.posk < 30 then s.gotoPos (s.seq.posk + 1) s.seq.op else s.gotoPos 24 o

/-- R152: a candidate for stuck high reads inactive while driven active. -/
def markCand (g : Sig) (s : State) : State :=
  s.setWork { s.work with
    cand := if s.readTrue then s.work.cand else setBitTo s.work.cand g.idx.val true }

/-- R152, R161: a signal that reads active while driven inactive, or not driven, is stuck low. -/
def markLow (g : Sig) (s : State) : State :=
  s.setWork { s.work with sl := if s.readTrue then setBitTo s.work.sl g.idx.val true else s.work.sl }

/-- R161 phase 1: the seven signals of `G` driven active together, then read. -/
def ctrlDriveLow (top : Bool) (s : State) : State :=
  match s.seq.op with
  | 0 => nextG 1 (ctlDir (sigG s.seq.posk) .output s)
  | 1 => nextG 2 (ctlWrite (sigG s.seq.posk) true s)
  | 2 => (settle s).gotoPos 24 3
  | _ =>
    let t := markCand (sigG s.seq.posk) (ctlRead (sigG s.seq.posk) s)
    if s.seq.posk < 30 then t.gotoPos (s.seq.posk + 1) 3
    else enterLine 0 7 24 ((phaseEnd top 1 4 t).gotoPhase 2 24)

/-- R161: on to the next of the seven signals of the confirmation. -/
def ctrlNextLine (s : State) : State := enterLine (s.seq.posk - 24 + 1) 7 (s.seq.posk + 1) s

/-- R161: the confirmation loop of the candidate at `POSK` is over. -/
def ctrlDecide (s : State) : State :=
  ctrlNextLine (if s.confirmed s.cfg.stuckPct then
    s.setWork { s.work with sh := setBitTo s.work.sh (sigG s.seq.posk).idx.val true } else s)

/-- R161 phase 2: the candidates among the seven confirmed one after another. -/
def ctrlConfirm (top : Bool) (s : State) : State :=
  match s.seq.op with
  | 0 =>
    if 30 < s.seq.posk then (phaseEnd top 2 4 s).gotoPhase 3 24
    else if !s.work.cand.getLsbD (sigG s.seq.posk).idx.val then ctrlNextLine s
    else if s.sampling then (confirmWait s).gotoOp 1
    else ctrlDecide s
  | _ =>
    let t := ctlRead (sigG s.seq.posk) s
    (countSample (!t.readTrue) t).gotoOp 0

/-- R161 phase 3, R162, R163: `G` driven inactive and read; each write-only signal made an input, settled,
read, made an output again; each read-only signal read.
The sample of a read-only signal is recorded: DEDUCED (log 19), unsafe. -/
def ctrlDriveHigh (top : Bool) (s : State) : State :=
  match s.seq.op with
  | 0 => nextG 1 (ctlWrite (sigG s.seq.posk) false s)
  | 1 => (settle s).gotoPos 24 2
  | 2 =>
    let t := markLow (sigG s.seq.posk) (ctlRead (sigG s.seq.posk) s)
    if s.seq.posk < 30 then t.gotoPos (s.seq.posk + 1) 2 else t.gotoPos 33 3
  | 3 => (ctlDir (sigW s.seq.posk) .input s).gotoOp 4
  | 4 => (settle s).gotoOp 5
  | 5 => (markLow (sigW s.seq.posk) (ctlRead (sigW s.seq.posk) s)).gotoOp 6
  | 6 =>
    let t := ctlDir (sigW s.seq.posk) .output s
    if s.seq.posk = 33 then t.gotoPos 35 3 else t.gotoPos 31 7
  | _ =>
    let t := markLow (sigRO s.seq.posk) (ctlRead (sigRO s.seq.posk) s)
    if s.seq.posk = 31 then t.gotoPos 32 7 else (phaseEnd top 3 4 t).gotoPhase 4 24

/-- R161 phase 4: `G` made inputs again; then the record is written. -/
def ctrlCleanup (s : State) : BodyStep :=
  match s.seq.op with
  | 0 => .more (nextG 1 (ctlDir (sigG s.seq.posk) .input s))
  | _ => .ended (writeCtrlRecord (s.work.sh.setWidth 12) (s.work.sl.setWidth 12) s)

/-- R161: the prologue; the record cleared, no candidate, nothing found. -/
def ctrlPrologue (s : State) : State :=
  let t := writeCtrlRecord 0#12 0#12 s
  (t.setWork { t.work with cand := 0#16, sh := 0#16, sl := 0#16 }).gotoPhase 1 24

/-- R161: one step of the test of the control set. -/
def verifyCtrlBody (top : Bool) (s : State) : BodyStep :=
  match s.seq.phase with
  | 0 => .more (ctrlPrologue s)
  | 1 => .more (ctrlDriveLow top s)
  | 2 => .more (ctrlConfirm top s)
  | 3 => .more (ctrlDriveHigh top s)
  | _ => ctrlCleanup s

/-- R155: the body of `VERIFY_DATA`. -/
def verifyDataBody (top : Bool) (s : State) : BodyStep := verifyBusBody .data top s

/-- R158: the body of `VERIFY_ADDR`. -/
def verifyAddrBody (top : Bool) (s : State) : BodyStep := verifyBusBody .address top s

/-- `VERIFY_DATA` (R155). -/
def execVerifyData (s : State) : Host.Outcome State Fault Refusal :=
  command .verifyData (verifyDataBody true) s

/-- `VERIFY_ADDR` (R158). -/
def execVerifyAddr (s : State) : Host.Outcome State Fault Refusal :=
  command .verifyAddr (verifyAddrBody true) s

/-- `VERIFY_CTRL` (R161). -/
def execVerifyCtrl (s : State) : Host.Outcome State Fault Refusal :=
  command .verifyCtrl (verifyCtrlBody true) s

end Sys2Proof.Machine
end

