-- ==== Sys2Proof/Machine/Operands.lean ====
section
/-! DEFINITION. Every operand form of the memory algorithms: the address of a cell and the order of a pass
(20_memory.md rules R92 and R94), and the value functions (44_memscan_patterns.md rule R234,
45_walking_bit.md rule R270). -/

namespace Sys2Proof.Machine

/-- R92: `addr(k) = (REGION_START + k) mod 65536`. -/
def Region.addr (r : Region) (k : Nat) : Addr := r.start + BitVec.ofNat 16 k

/-- R232: the direction of a pass. -/
inductive PassDir where
  | asc | desc
  deriving DecidableEq, Repr

/-- R94: the first cell of a pass over `len` cells; `Config.passEnd` when there is none. -/
def PassDir.first (d : PassDir) (len : Nat) : Nat :=
  if len = 0 then Config.passEnd
  else match d with
    | .asc => 0
    | .desc => len - 1

/-- R94: the cell after cell `k`; `Config.passEnd` when `k` was the last. -/
def PassDir.next (d : PassDir) (len k : Nat) : Nat :=
  match d with
  | .asc => if k + 1 < len then k + 1 else Config.passEnd
  | .desc => if k = 0 then Config.passEnd else k - 1

/-- R234: the value functions `val(A)`, with the operand each takes from the command. -/
inductive CellVal where
  /-- a constant -/
  | const (c : Byte)
  /-- the operand `P` -/
  | pat (p : Byte)
  /-- the inverse `~P` -/
  | inv (p : Byte)
  /-- R241 `tog(P, T)` -/
  | tog (p : Byte) (t : Bool)
  /-- R247 `chk(T)` -/
  | chk (t : Bool)
  /-- R253 `uniq(P)` -/
  | uniq (p : Byte)
  /-- R270 `walk1(b)` -/
  | walk1 (b : BitVec 4)
  /-- R270 `walk0(b)` -/
  | walk0 (b : BitVec 4)
  deriving DecidableEq, Repr

/-- R51: the working register an operand is held in: `PAT` holds `P`, `BITIX` the walking-bit index. When they
are loaded: DESIGN CHOICE (log 20), unsafe. -/
def CellVal.load (v : CellVal) (w : Work) : Work :=
  match v with
  | .const _ | .chk _ => w
  | .pat p | .inv p | .tog p _ | .uniq p => { w with pat := p }
  | .walk1 b | .walk0 b => { w with bitix := b }

/-- R234: the parity of a cell is bit 0 of its address. -/
def parity (a : Addr) : Bool := a.getLsbD 0

/-- R234, R241, R247, R253, R270: the byte for the cell in `A`, from the working registers. -/
def CellVal.value (v : CellVal) (w : Work) : Byte :=
  match v with
  | .const c => c
  | .pat _ => w.pat
  | .inv _ => ~~~w.pat
  | .tog _ t => if t && parity w.a then ~~~w.pat else w.pat
  | .chk t => if parity w.a ^^ t then 0xAA#8 else 0x55#8
  | .uniq _ => w.a.setWidth 8 ^^^ w.pat
  | .walk1 _ => 1#8 <<< w.bitix.toNat
  | .walk0 _ => 0xFF#8 ^^^ (1#8 <<< w.bitix.toNat)

/-- R234: the byte a value function gives for address `a`. -/
def CellVal.at (v : CellVal) (a : Addr) : Byte :=
  match v with
  | .const c => c
  | .pat p => p
  | .inv p => ~~~p
  | .tog p t => if t && parity a then ~~~p else p
  | .chk t => if parity a ^^ t then 0xAA#8 else 0x55#8
  | .uniq p => a.setWidth 8 ^^^ p
  | .walk1 b => 1#8 <<< b.toNat
  | .walk0 b => 0xFF#8 ^^^ (1#8 <<< b.toNat)

end Sys2Proof.Machine
end

