-- ==== Sys2Proof/Machine/MemScan.lean ====
section
/-! DEFINITION. The scan machinery the twelve memory algorithms share (44_memscan_patterns.md rules R230 to
R239) and the five pattern algorithms on it (R240 to R257): REPWRITE, REPREAD, CHECKER, READDESTR,
ADDRUNIQ. -/

namespace Sys2Proof.Machine

/-- R233: the per-cell operations. -/
inductive CellOp where
  /-- `w(val)`: write -/
  | w (v : CellVal)
  /-- `r(val)`: read and compare -/
  | r (v : CellVal)
  /-- `rd`: read and discard -/
  | rd
  /-- `rstop(val, n)`: repeated compared read with early stop (R250) -/
  | rstop (v : CellVal) (n : Nat)
  deriving DecidableEq, Repr

/-- A phase of a memory algorithm: a pass (R232), or the wait of RETENTION (R311). -/
inductive MemPhase where
  | pass (dir : PassDir) (ops : List CellOp)
  | wait (ms : Nat) (n : Nat)
  deriving DecidableEq, Repr

/-! ### Per-bit fault counting (R236) -/

/-- R10, R236: `sat32(n) = min(n, 2^32 - 1)`. -/
def sat32 (n : Nat) : Word32 := BitVec.ofNat 32 (min n 4294967295)

/-- R236: the counters after comparing expected byte `e` with actual byte `x`. -/
def TestResult.accumulate (r : TestResult) (e x : Byte) : TestResult :=
  if e = x then r
  else
    { total := sat32 (r.total.toNat + 1),
      bit := vec8 fun i =>
        if (e ^^^ x).getLsbD i.val then sat32 ((r.bit.get i).toNat + 1) else r.bit.get i }

/-- R236 `Accumulate(EXP, RDV)`: the expected byte against the byte the last read returned. -/
def accumulate (s : State) : State :=
  s.setRes { s.res with tr := s.res.tr.accumulate s.work.exp (s.work.rdv.setWidth 8) }

/-- R235: `TR <- 0`. -/
def clearTr (s : State) : State := s.setRes { s.res with tr := .zero }

/-! ### One operation on one cell (R233) -/

/-- `A <- addr(k)` for the cell `k` in `POSK`. -/
def loadAddr (s : State) : State := s.setWork { s.work with a := s.region.addr s.seq.posk }

/-- The working registers an operation on the current cell takes: `A`, and the operand of `v`. -/
def loadCell (v : CellVal) (s : State) : State := (loadAddr s).setWork (v.load (loadAddr s).work)

/-- `EXP <- val(A)`. -/
def loadExpected (v : CellVal) (s : State) : State := s.setWork { s.work with exp := v.value s.work }

/-- R233 `w(val)`. -/
def cellWrite (v : CellVal) (s : State) : State :=
  memWrite (loadCell v s).work.a (v.value (loadCell v s).work) (loadCell v s)

/-- R233 `rd`. -/
def cellReadDiscard (s : State) : State := memRead (loadAddr s).work.a (loadAddr s)

/-- `EXP <- val(A); RDV <- MemRead(A)`: a compared read, not yet counted. -/
def cellFetch (v : CellVal) (s : State) : State :=
  memRead (loadCell v s).work.a (loadExpected v (loadCell v s))

/-- R233 `r(val)`. -/
def cellRead (v : CellVal) (s : State) : State := accumulate (cellFetch v s)

/-- The byte read is not the byte expected. -/
def State.mismatch (s : State) : Bool := s.work.rdv.setWidth 8 != s.work.exp

/-- On to the next cell of the pass (R94). -/
def nextCell (d : PassDir) (s : State) : State := s.gotoPos (d.next s.region.length.toNat s.seq.posk) 0

/-- R232: on to the next operation of the list, or to the next cell when there is none. -/
def nextOp (d : PassDir) (ops : List CellOp) (s : State) : State :=
  if s.seq.op + 1 < ops.length then s.gotoPos s.seq.posk (s.seq.op + 1) else nextCell d s

/-- R250, R312: `RDCNT <- n`. -/
def setRdcnt (n : Byte) (s : State) : State := s.setWork { s.work with rdcnt := n }

/-- R250, R312: `RDCNT <- RDCNT + 1`. -/
def countRead (s : State) : State := setRdcnt (s.work.rdcnt + 1#8) s

/-- R232, R250: `A <- addr(k)`, and `RDCNT <- 0` where the reads of a cell begin. That is where `SAMPLE`, the
iteration of the repeated read (R50), is 0: DEDUCED (log 22), safe. -/
def rstopBegin (s : State) : State :=
  if s.seq.sample = 0 then setRdcnt 0#8 (loadAddr s) else loadAddr s

/-- The same cell is read again: the next iteration of the repeated read (R50). -/
def readAgain (s : State) : State := s.setSeq { s.seq with sample := s.seq.sample + 1 }

/-- R250: one turn of `rstop`: a read, counted in `RDCNT`, while `RDCNT < n`; the first mismatch is accumulated
and ends the reads of this cell. -/
def rstopTurn (d : PassDir) (ops : List CellOp) (v : CellVal) (n : Nat) (s : State) : State :=
  let b := rstopBegin s
  if b.work.rdcnt.toNat < n then
    let t := countRead (cellFetch v b)
    if t.mismatch then nextOp d ops (accumulate t)
    else readAgain t
  else nextOp d ops b

/-- R233: the operation `o` of a pass at the current cell. -/
def cellOp (d : PassDir) (ops : List CellOp) (o : CellOp) (s : State) : State :=
  match o with
  | .w v => nextOp d ops (cellWrite v s)
  | .r v => nextOp d ops (cellRead v s)
  | .rd => nextOp d ops (cellReadDiscard s)
  | .rstop v n => rstopTurn d ops v n s

/-! ### Passes and algorithms (R232, R235, R237) -/

/-- Into phase `j + 1` of an algorithm: a pass at its first cell (R94), the wait with `RDCNT <- 0` (R312). -/
def enterPhase (phases : List MemPhase) (j : Nat) (s : State) : State :=
  match phases[j]? with
  | some (.pass d _) => s.gotoPhase (j + 1) (d.first s.region.length.toNat)
  | some (.wait _ _) => setRdcnt 0#8 (s.gotoPhase (j + 1) 0)
  | none => s.gotoPhase (j + 1) 0

/-- Phase `j` (counted from 1) has ended: `PROGRESS` (R237), then the next phase, or the algorithm's end. -/
def endPhase (top : Bool) (phases : List MemPhase) (j : Nat) (s : State) : BodyStep :=
  if j < phases.length then .more (enterPhase phases j (phaseEnd top j phases.length s))
  else .ended (phaseEnd top j phases.length s)

/-- R232: one step of a pass. -/
def passStep (d : PassDir) (ops : List CellOp) (s : State) : State :=
  match ops[s.seq.op]? with
  | some o => cellOp d ops o s
  | none => nextCell d s

/-- R311, R312: one `DelayMs(D)` of the wait, counted in `RDCNT`. -/
def waitStep (ms : Nat) (s : State) : State := countRead (delayMs ms s)

/-- R51: `PAT` holds the operand `P`; a command without `P` leaves it (R52). When it is loaded: DESIGN CHOICE
(log 20), unsafe. -/
def loadPattern (pat : Option Byte) (s : State) : State :=
  s.setWork { s.work with pat := pat.getD s.work.pat }

/-- R232, R235: one step of a memory algorithm given as its list of phases, `pat` being its operand `P`, if it
has one. `PHASE` 0 is the prologue; phase `j` is the `j`-th of the list; `POSK` is the cell, `OP` the
operation of the list that is done on it. -/
def memBody (top : Bool) (pat : Option Byte) (phases : List MemPhase) (s : State) : BodyStep :=
  match s.seq.phase with
  | 0 => .more (enterPhase phases 0 (clearTr (loadPattern pat s)))
  | j + 1 =>
    match phases[j]? with
    | none => .ended s
    | some (.pass d ops) =>
      if s.seq.posk < Config.passEnd then .more (passStep d ops s) else endPhase top phases (j + 1) s
    | some (.wait ms n) =>
      if s.work.rdcnt.toNat < n then .more (waitStep ms s) else endPhase top phases (j + 1) s

/-! ### The pattern algorithms -/

/-- R240: five writes to each cell, then a verify pass. -/
def repwriteTable (p : Byte) (t : Bool) : List MemPhase :=
  [.pass .asc (List.replicate Config.repeatCount (.w (.tog p t))), .pass .asc [.r (.tog p t)]]

/-- R243: a write pass, then five reads of each cell, the last compared. -/
def repreadTable (p : Byte) : List MemPhase :=
  [.pass .asc [.w (.pat p)], .pass .asc (List.replicate (Config.repeatCount - 1) .rd ++ [.r (.pat p)])]

/-- R246 -/
def checkerTable (t : Bool) : List MemPhase := [.pass .asc [.w (.chk t)], .pass .asc [.r (.chk t)]]

/-- R249 -/
def readdestrTable (p : Byte) (n : Nat) : List MemPhase :=
  [.pass .asc [.w (.pat p)], .pass .asc [.rstop (.pat p) n]]

/-- R253 -/
def addruniqTable (p : Byte) : List MemPhase := [.pass .asc [.w (.uniq p)], .pass .asc [.r (.uniq p)]]

/-- R240: the body of `REPWRITE`. -/
def repwriteBody (top : Bool) (p : Byte) (t : Bool) (s : State) : BodyStep :=
  memBody top (some p) (repwriteTable p t) s

/-- R243: the body of `REPREAD`. -/
def repreadBody (top : Bool) (p : Byte) (s : State) : BodyStep := memBody top (some p) (repreadTable p) s

/-- R246: the body of `CHECKER`, whose word has no `P`. -/
def checkerBody (top : Bool) (t : Bool) (s : State) : BodyStep := memBody top none (checkerTable t) s

/-- R249: the body of `READDESTR`. -/
def readdestrBody (top : Bool) (p : Byte) (n : Nat) (s : State) : BodyStep :=
  memBody top (some p) (readdestrTable p n) s

/-- R253: the body of `ADDRUNIQ`. -/
def addruniqBody (top : Bool) (p : Byte) (s : State) : BodyStep := memBody top (some p) (addruniqTable p) s

/-- `REPWRITE P, T` (R240). -/
def execRepwrite (p : Byte) (t : Bool) (s : State) : Host.Outcome State Fault Refusal :=
  command (.repwrite p t) (repwriteBody true p t) s

/-- `REPREAD P` (R243). -/
def execRepread (p : Byte) (s : State) : Host.Outcome State Fault Refusal :=
  command (.repread p) (repreadBody true p) s

/-- `CHECKER T` (R246). -/
def execChecker (t : Bool) (s : State) : Host.Outcome State Fault Refusal :=
  command (.checker t) (checkerBody true t) s

/-- `READDESTR P, N` (R249). -/
def execReaddestr (p : Byte) (n : Nat) (s : State) : Host.Outcome State Fault Refusal :=
  command (.readdestr p n) (readdestrBody true p n) s

/-- `ADDRUNIQ P` (R253). -/
def execAddruniq (p : Byte) (s : State) : Host.Outcome State Fault Refusal :=
  command (.addruniq p) (addruniqBody true p) s

end Sys2Proof.Machine
end

