-- ==== Sys2Proof/Machine/March.lean ====
section
/-! DEFINITION. The march engine (46_march.md): MARCHC, MARCHSS, MARCHLA. -/

namespace Sys2Proof.Machine

/-- R281 `w0`: write the byte 0x00. -/
def w0 : CellOp := .w (.const 0x00#8)
/-- R281 `w1`: write the byte 0xFF. -/
def w1 : CellOp := .w (.const 0xFF#8)
/-- R281 `r0`: read, expecting 0x00. -/
def r0 : CellOp := .r (.const 0x00#8)
/-- R281 `r1`: read, expecting 0xFF. -/
def r1 : CellOp := .r (.const 0xFF#8)

/-- R283: the four elements of MarchC-. -/
def marchcTable : List MemPhase :=
  [.pass .asc [w0], .pass .asc [r0, w1], .pass .desc [r1, w0], .pass .desc [r0]]

/-- R284: the six elements of MarchSS. -/
def marchssTable : List MemPhase :=
  [.pass .asc [w0], .pass .desc [r0, w1], .pass .asc [r1, w0], .pass .desc [r0, w1], .pass .asc [r1, w0],
    .pass .desc [r0]]

/-- R285: the four elements of MarchLA. -/
def marchlaTable : List MemPhase :=
  [.pass .asc [w0], .pass .asc [r0, w1, w0, w1], .pass .desc [r1, w0, w1, w0], .pass .desc [r0]]

/-- R283: the body of `MARCHC`. -/
def marchcBody (top : Bool) (s : State) : BodyStep := memBody top none marchcTable s

/-- R284: the body of `MARCHSS`. -/
def marchssBody (top : Bool) (s : State) : BodyStep := memBody top none marchssTable s

/-- R285: the body of `MARCHLA`. -/
def marchlaBody (top : Bool) (s : State) : BodyStep := memBody top none marchlaTable s

/-- `MARCHC` (R283). -/
def execMarchc (s : State) : Host.Outcome State Fault Refusal := command .marchc (marchcBody true) s

/-- `MARCHSS` (R284). -/
def execMarchss (s : State) : Host.Outcome State Fault Refusal := command .marchss (marchssBody true) s

/-- `MARCHLA` (R285). -/
def execMarchla (s : State) : Host.Outcome State Fault Refusal := command .marchla (marchlaBody true) s

end Sys2Proof.Machine
end

