-- ==== Sys2Proof/Machine/MovInv.lean ====
section
/-! DEFINITION. The moving-inversion sequencer (47_moving_inversion.md): MOVINV. -/

namespace Sys2Proof.Machine

/-- R302: the four sub-phases, all ascending (R301). -/
def movinvTable (p : Byte) : List MemPhase :=
  [.pass .asc [.w (.pat p)], .pass .asc [.r (.pat p), .w (.inv p)],
    .pass .asc [.r (.inv p), .w (.pat p)], .pass .asc [.r (.pat p)]]

/-- R302: the body of `MOVINV`. -/
def movinvBody (top : Bool) (p : Byte) (s : State) : BodyStep := memBody top (some p) (movinvTable p) s

/-- `MOVINV P` (R302). -/
def execMovinv (p : Byte) (s : State) : Host.Outcome State Fault Refusal :=
  command (.movinv p) (movinvBody true p) s

end Sys2Proof.Machine
end

