-- ==== Sys2Proof/Machine/Retention.lean ====
section
/-! DEFINITION. The retention controller (48_retention.md): RETENTION. -/

namespace Sys2Proof.Machine

/-- R312: a write pass, `n` delays of `d` milliseconds, a verify pass: three phases. -/
def retentionTable (p : Byte) (d n : Nat) : List MemPhase :=
  [.pass .asc [.w (.pat p)], .wait d n, .pass .asc [.r (.pat p)]]

/-- R312: the body of `RETENTION`. -/
def retentionBody (top : Bool) (p : Byte) (d n : Nat) (s : State) : BodyStep :=
  memBody top (some p) (retentionTable p d n) s

/-- `RETENTION P, D, N` (R312). -/
def execRetention (p : Byte) (d n : Nat) (s : State) : Host.Outcome State Fault Refusal :=
  command (.retention p d n) (retentionBody true p d n) s

end Sys2Proof.Machine
end

