-- ==== Sys2Proof/Machine/Walking.lean ====
section
/-! DEFINITION. The walking-bit generator (45_walking_bit.md): WALK1, WALK0. -/

namespace Sys2Proof.Machine

/-- R271: the walking-bit index runs from 0 up to 7. -/
def walkOrder : List (BitVec 4) := [0#4, 1#4, 2#4, 3#4, 4#4, 5#4, 6#4, 7#4]

/-- R272, R273: for each index a write pass and then a verify pass of its pattern, sixteen in all. -/
def walkTable (pattern : BitVec 4 → CellVal) : List MemPhase :=
  walkOrder.flatMap fun b => [.pass .asc [.w (pattern b)], .pass .asc [.r (pattern b)]]

/-- R272: the body of `WALK1`. -/
def walk1Body (top : Bool) (s : State) : BodyStep := memBody top none (walkTable CellVal.walk1) s

/-- R273: the body of `WALK0`. -/
def walk0Body (top : Bool) (s : State) : BodyStep := memBody top none (walkTable CellVal.walk0) s

/-- `WALK1` (R272). -/
def execWalk1 (s : State) : Host.Outcome State Fault Refusal := command .walk1 (walk1Body true) s

/-- `WALK0` (R273). -/
def execWalk0 (s : State) : Host.Outcome State Fault Refusal := command .walk0 (walk0Body true) s

end Sys2Proof.Machine
end

