-- ==== Sys2Proof/Machine/Suite.lean ====
section
/-! DEFINITION. The per-bit fault aggregator and the suite runner (49_suite_aggregator.md rules R320 to R329):
SUITE. -/

namespace Sys2Proof.Machine

/-! ### The aggregator -/

/-- R322: two results summed counter by counter, saturating. -/
def TestResult.fold (a r : TestResult) : TestResult :=
  { total := sat32 (a.total.toNat + r.total.toNat),
    bit := vec8 fun i => sat32 ((a.bit.get i).toNat + (r.bit.get i).toNat) }

/-- R322 `AggFold()`. -/
def aggFold (s : State) : State := s.setRes { s.res with agg := s.res.agg.fold s.res.tr }

/-- R323: one flag per data bit whose aggregate counter is not 0. -/
def faultyMask (r : TestResult) : BitVec 8 :=
  (List.finRange 8).foldl (fun m i => setBitTo m i.val (r.bit.get i != 0#32)) 0#8

/-- R323: `AGG_FAULTY_MASK` written, at the end of a suite. -/
def writeFaultyMask (s : State) : State :=
  s.setRes { s.res with aggFaultyMask := faultyMask s.res.agg }

/-- R325: the log entry of call `c`, and `SLOG_COUNT <- c + 1`. -/
def recordCall (c : Nat) (w : Word64) (s : State) : State :=
  s.setRes { s.res with
    slog := s.res.slog.setIfInBounds c { cmd := w, result := s.res.tr }
    slogCount := BitVec.ofNat 5 (c + 1) }

/-! ### The suite -/

/-- R326: the 19 calls, with the configuration values substituted. -/
def suiteTable (c : Cfg) : List Instr :=
  [.repwrite 0xAA#8 false, .repwrite 0x55#8 true, .repread 0xAA#8, .repread 0x55#8, .checker false,
    .checker true, .walk1, .walk0, .marchc, .marchss, .marchla, .movinv 0x00#8, .movinv 0xFF#8,
    .movinv 0x55#8, .addruniq 0x00#8, .addruniq 0xFF#8, .readdestr 0xAA#8 c.rdReads.toNat,
    .readdestr 0x55#8 c.rdReads.toNat, .retention 0xFF#8 c.retDelayMs.toNat c.retRepeat.toNat]

/-- R326: the command of call `c`. There is no call after the last. -/
def suiteCall (cfg : Cfg) (c : Nat) : Instr := (suiteTable cfg).getD c .nop

/-- R327: one step of the memory algorithm a call runs; no `PROGRESS` writes inside (R336). A command that is
no memory algorithm is no row of R326. -/
def memAlgorithmBody (i : Instr) (s : State) : BodyStep :=
  match i with
  | .repwrite p t => repwriteBody false p t s
  | .repread p => repreadBody false p s
  | .checker t => checkerBody false t s
  | .walk1 => walk1Body false s
  | .walk0 => walk0Body false s
  | .marchc => marchcBody false s
  | .marchss => marchssBody false s
  | .marchla => marchlaBody false s
  | .movinv p => movinvBody false p s
  | .retention p d n => retentionBody false p d n s
  | .readdestr p n => readdestrBody false p n s
  | .addruniq p => addruniqBody false p s
  | .nop | .activate | .deactivate | .clear | .verifyData | .verifyAddr | .verifyCtrl | .sample
  | .crosstalk | .suite | .fullpass => .ended s

/-- R327: the suite's prologue: `TR`, the aggregate and the log cleared. -/
def suitePrologue (s : State) : State :=
  (s.setRes { s.res with
    tr := .zero, agg := .zero, aggFaultyMask := 0#8, slogCount := 0#5, slog := Results.emptyLog }).setSeq
    { s.seq with call := 0, phase := 0, op := 1 }

/-- R325, R327: call `CALL` has ended: logged, folded, `PROGRESS`; then the next call or the end. -/
def endCall (top : Bool) (s : State) : BodyStep :=
  let t := aggFold (recordCall s.seq.call (encode (suiteCall s.cfg s.seq.call)) s)
  if s.seq.call + 1 < Config.suiteCalls then
    .more ((phaseEnd top (s.seq.call + 1) Config.suiteCalls t).setSeq
      { s.seq with call := s.seq.call + 1, phase := 0, op := 1 })
  else .ended (writeFaultyMask (phaseEnd top 1 1 t))

/-- R327: one step of the running call. -/
def callStep (top : Bool) (s : State) : BodyStep :=
  match memAlgorithmBody (suiteCall s.cfg s.seq.call) s with
  | .more t => .more t
  | .ended t => endCall top t
  | .cancelled t => .cancelled t
  | .fatal t => .fatal t

/-- R327: one step of the body of `SUITE`. `PHASE` 0, `OP` 0 is the suite's prologue; `PHASE` 0 with another
`OP` is the cancel point before a call (R335) and that call's own prologue: DEDUCED (log 8), unsafe. -/
def suiteBody (top : Bool) (s : State) : BodyStep :=
  if s.seq.phase = 0 ∧ s.seq.op = 0 then .more (suitePrologue s)
  else if s.seq.phase = 0 ∧ s.cancelReq = true then .cancelled (writeFaultyMask s)
  else callStep top s

/-- `SUITE` (R327). -/
def execSuite (s : State) : Host.Outcome State Fault Refusal := command .suite (suiteBody true) s

end Sys2Proof.Machine
end

