-- ==== Sys2Proof/Machine/Housekeeping.lean ====
section
/-! DEFINITION. The housekeeping commands and the full pass (49_suite_aggregator.md rules R330 to R338): NOP,
CLEAR, FULLPASS. -/

namespace Sys2Proof.Machine

/-- R338: every result register set to 0. -/
def clearResults (s : State) : State := s.setRes .zero

/-- R337: the body of `NOP` does nothing. -/
def nopBody (s : State) : BodyStep := .ended s

/-- R338: the body of `CLEAR`, no bus operation. -/
def clearBody (s : State) : BodyStep := .ended (clearResults s)

/-! ### FULLPASS (R330) -/

/-- Into stage `st`, at its start. -/
def enterStage (st : Nat) (s : State) : State := s.setSeq { Seq.start with stage := st }

/-- R330: the bodies of the stages, without `PROGRESS` writes. -/
def stageBody (st : Nat) (s : State) : BodyStep :=
  match st with
  | 1 => activateBody s
  | 2 => verifyDataBody false s
  | 3 => verifyAddrBody false s
  | 4 => verifyCtrlBody false s
  | 5 => crosstalkBody false s
  | 6 => suiteBody false s
  | _ => deactivateBody s

/-- R330: the start of a stage. -/
def Seq.atStageStart (q : Seq) : Bool := decide (q.phase = 0) && decide (q.op = 0) && decide (q.call = 0)

/-- R335 (c): the stages that begin with a cancel point. -/
def cancelStage (st : Nat) : Bool := decide (2 ≤ st) && decide (st ≤ 6)

/-- R330, R332: a cancel point has fired: the pass goes to stage 7, the deactivation. -/
def abandonPass (s : State) : State := enterStage 7 (s.setWork { s.work with cancelling := true })

/-- R330: one step of a stage. -/
def stageStep (s : State) : BodyStep :=
  match stageBody s.seq.stage s with
  | .more t => .more t
  | .ended t =>
    if s.seq.stage < 7 then .more (enterStage (s.seq.stage + 1) (phaseEnd true s.seq.stage 7 t))
    else if t.work.cancelling then .cancelled t
    else .ended t
  | .cancelled t => .more (abandonPass t)
  | .fatal t => .fatal t

/-- R330: one step of the body of `FULLPASS`. Stage 0 is the prologue, which clears every result.
A cancel point reads in the first step of its stage: DEDUCED (log 8), unsafe. A stage past 7, which no run
reaches, is the deactivation: DESIGN CHOICE (log 24), unsafe. -/
def fullpassBody (s : State) : BodyStep :=
  if s.seq.stage = 0 then
    .more (enterStage 1 ((clearResults s).setWork { s.work with cancelling := false }))
  else if cancelStage s.seq.stage && s.seq.atStageStart && s.cancelReq then .more (abandonPass s)
  else stageStep s

/-- `NOP` (R337). -/
def execNop (s : State) : Host.Outcome State Fault Refusal := command .nop nopBody s

/-- `CLEAR` (R338). -/
def execClear (s : State) : Host.Outcome State Fault Refusal := command .clear clearBody s

/-- `FULLPASS` (R330). -/
def execFullpass (s : State) : Host.Outcome State Fault Refusal := command .fullpass fullpassBody s

end Sys2Proof.Machine
end

