-- ==== Sys2Proof/Machine/Dispatch.lean ====
section
/-! DEFINITION. The one place where a command meets its meaning: one arm per constructor of `Instr`. -/

namespace Sys2Proof.Machine
open Sys2Proof

def exec (i : Instr) (s : State) : Host.Outcome State Fault Refusal :=
  match i with
  | .nop => Sys2Proof.Machine.execNop s
  | .activate => Sys2Proof.Machine.execActivate s
  | .deactivate => Sys2Proof.Machine.execDeactivate s
  | .clear => Sys2Proof.Machine.execClear s
  | .verifyData => Sys2Proof.Machine.execVerifyData s
  | .verifyAddr => Sys2Proof.Machine.execVerifyAddr s
  | .verifyCtrl => Sys2Proof.Machine.execVerifyCtrl s
  | .sample => Sys2Proof.Machine.execSample s
  | .crosstalk => Sys2Proof.Machine.execCrosstalk s
  | .repwrite p t => Sys2Proof.Machine.execRepwrite p t s
  | .repread p => Sys2Proof.Machine.execRepread p s
  | .checker t => Sys2Proof.Machine.execChecker t s
  | .walk1 => Sys2Proof.Machine.execWalk1 s
  | .walk0 => Sys2Proof.Machine.execWalk0 s
  | .marchc => Sys2Proof.Machine.execMarchc s
  | .marchss => Sys2Proof.Machine.execMarchss s
  | .marchla => Sys2Proof.Machine.execMarchla s
  | .movinv p => Sys2Proof.Machine.execMovinv p s
  | .retention p d n => Sys2Proof.Machine.execRetention p d n s
  | .readdestr p n => Sys2Proof.Machine.execReaddestr p n s
  | .addruniq p => Sys2Proof.Machine.execAddruniq p s
  | .suite => Sys2Proof.Machine.execSuite s
  | .fullpass => Sys2Proof.Machine.execFullpass s

end Sys2Proof.Machine
end

