-- ==== Sys2Proof/Machine/HostPort.lean ====
section
/-! DEFINITION. The host port (10_state.md rules R58 to R62): the register map, what a read returns, and what
becomes of a write before a command is decoded. -/

namespace Sys2Proof.Machine

/-- R60: the registers that have an index. -/
inductive RegId where
  | cmd | status | progress | control | regionStart | regionLength
  | icRef (i : Fin 8)
  | cfgSettleDelay | cfgConfirmDelay | cfgConfirmLoops | cfgStuckPct | cfgXtPct | cfgActPct
  | cfgRetDelayMs | cfgRetRepeat | cfgRdReads
  | frdStuckHigh | frdStuckLow | fraStuckHigh | fraStuckLow | frcStuckHigh | frcStuckLow | issues
  | xtSource | xtDest | snap | xtBaseline
  | trTotal
  | trBit (i : Fin 8)
  | aggTotal
  | aggBit (i : Fin 8)
  | aggFaultyMask | slogCount
  | slogCmd (c : Fin 19)
  | slogTotal (c : Fin 19)
  | slogBit (c : Fin 19) (i : Fin 8)
  deriving DecidableEq, Repr

/-- R60: the registers of one entry of the suite log, by offset in its block of 16 indices. -/
def slogReg (c : Fin 19) (offset : Nat) : Option RegId :=
  if offset = 0 then some (.slogCmd c)
  else if offset = 1 then some (.slogTotal c)
  else if h : 2 ≤ offset ∧ offset < 10 then some (.slogBit c ⟨offset - 2, by omega⟩)
  else none

/-- R60: the register map; `none` is an unassigned index. An index is any number: DEDUCED (log 16), safe. -/
def regOf (index : Nat) : Option RegId :=
  if index = 0x00 then some .cmd
  else if index = 0x01 then some .status
  else if index = 0x02 then some .progress
  else if index = 0x03 then some .control
  else if index = 0x04 then some .regionStart
  else if index = 0x05 then some .regionLength
  else if h : 0x08 ≤ index ∧ index < 0x10 then some (.icRef ⟨index - 0x08, by omega⟩)
  else if index = 0x10 then some .cfgSettleDelay
  else if index = 0x11 then some .cfgConfirmDelay
  else if index = 0x12 then some .cfgConfirmLoops
  else if index = 0x13 then some .cfgStuckPct
  else if index = 0x14 then some .cfgXtPct
  else if index = 0x15 then some .cfgActPct
  else if index = 0x16 then some .cfgRetDelayMs
  else if index = 0x17 then some .cfgRetRepeat
  else if index = 0x18 then some .cfgRdReads
  else if index = 0x20 then some .frdStuckHigh
  else if index = 0x21 then some .frdStuckLow
  else if index = 0x22 then some .fraStuckHigh
  else if index = 0x23 then some .fraStuckLow
  else if index = 0x24 then some .frcStuckHigh
  else if index = 0x25 then some .frcStuckLow
  else if index = 0x26 then some .issues
  else if index = 0x28 then some .xtSource
  else if index = 0x29 then some .xtDest
  else if index = 0x2A then some .snap
  else if index = 0x2B then some .xtBaseline
  else if index = 0x30 then some .trTotal
  else if h : 0x31 ≤ index ∧ index < 0x39 then some (.trBit ⟨index - 0x31, by omega⟩)
  else if index = 0x40 then some .aggTotal
  else if h : 0x41 ≤ index ∧ index < 0x49 then some (.aggBit ⟨index - 0x41, by omega⟩)
  else if index = 0x49 then some .aggFaultyMask
  else if index = 0x4A then some .slogCount
  else if h : 0x100 ≤ index ∧ index < 0x100 + 16 * 19 then
    slogReg ⟨(index - 0x100) / 16, by omega⟩ ((index - 0x100) % 16)
  else none

/-- R60: the width of a register. -/
def RegId.width : RegId → Nat
  | .cmd => 64
  | .status | .control | .regionLength | .icRef _ => 32
  | .progress | .cfgStuckPct | .cfgXtPct | .cfgActPct => 7
  | .regionStart | .cfgSettleDelay | .cfgConfirmDelay | .cfgConfirmLoops | .cfgRetDelayMs => 16
  | .cfgRetRepeat | .cfgRdReads => 8
  | .frdStuckHigh | .frdStuckLow | .aggFaultyMask => 8
  | .fraStuckHigh | .fraStuckLow => 16
  | .frcStuckHigh | .frcStuckLow => 12
  | .issues => 4
  | .xtSource | .xtDest | .snap | .xtBaseline => 64
  | .trTotal | .trBit _ | .aggTotal | .aggBit _ => 32
  | .slogCount => 5
  | .slogCmd _ => 64
  | .slogTotal _ | .slogBit _ _ => 32

/-- R61: the result registers, indices 0x20 to 0x4A and 0x100 upward. -/
def RegId.isResult : RegId → Bool
  | .cmd | .status | .progress | .control | .regionStart | .regionLength | .icRef _ => false
  | .cfgSettleDelay | .cfgConfirmDelay | .cfgConfirmLoops | .cfgStuckPct | .cfgXtPct | .cfgActPct => false
  | .cfgRetDelayMs | .cfgRetRepeat | .cfgRdReads => false
  | .frdStuckHigh | .frdStuckLow | .fraStuckHigh | .fraStuckLow | .frcStuckHigh | .frcStuckLow => true
  | .issues | .xtSource | .xtDest | .snap | .xtBaseline | .trTotal | .trBit _ => true
  | .aggTotal | .aggBit _ | .aggFaultyMask | .slogCount => true
  | .slogCmd _ | .slogTotal _ | .slogBit _ _ => true

/-- R60: the current value of a register, zero-extended. -/
def RegId.value (r : RegId) (s : State) : Word64 :=
  match r with
  | .cmd => s.lastcmd
  | .status => s.status.setWidth 64
  | .progress => s.progress.setWidth 64
  | .control => s.control.setWidth 64
  | .regionStart => s.region.start.setWidth 64
  | .regionLength => s.region.length.setWidth 64
  | .icRef i => (s.icRef.get i).setWidth 64
  | .cfgSettleDelay => s.cfg.settleDelay.setWidth 64
  | .cfgConfirmDelay => s.cfg.confirmDelay.setWidth 64
  | .cfgConfirmLoops => s.cfg.confirmLoops.setWidth 64
  | .cfgStuckPct => s.cfg.stuckPct.setWidth 64
  | .cfgXtPct => s.cfg.xtPct.setWidth 64
  | .cfgActPct => s.cfg.actPct.setWidth 64
  | .cfgRetDelayMs => s.cfg.retDelayMs.setWidth 64
  | .cfgRetRepeat => s.cfg.retRepeat.setWidth 64
  | .cfgRdReads => s.cfg.rdReads.setWidth 64
  | .frdStuckHigh => s.res.frd.stuckHigh.setWidth 64
  | .frdStuckLow => s.res.frd.stuckLow.setWidth 64
  | .fraStuckHigh => s.res.fra.stuckHigh.setWidth 64
  | .fraStuckLow => s.res.fra.stuckLow.setWidth 64
  | .frcStuckHigh => s.res.frc.stuckHigh.setWidth 64
  | .frcStuckLow => s.res.frc.stuckLow.setWidth 64
  | .issues => s.res.issues.setWidth 64
  | .xtSource => s.res.xtSource
  | .xtDest => s.res.xtDest
  | .snap => s.res.snap
  | .xtBaseline => s.res.xtBaseline
  | .trTotal => s.res.tr.total.setWidth 64
  | .trBit i => (s.res.tr.bit.get i).setWidth 64
  | .aggTotal => s.res.agg.total.setWidth 64
  | .aggBit i => (s.res.agg.bit.get i).setWidth 64
  | .aggFaultyMask => s.res.aggFaultyMask.setWidth 64
  | .slogCount => s.res.slogCount.setWidth 64
  | .slogCmd c => (s.res.slog.get c).cmd
  | .slogTotal c => (s.res.slog.get c).result.total.setWidth 64
  | .slogBit c i => ((s.res.slog.get c).result.bit.get i).setWidth 64

/-- The low `w` bits of a value: how the port carries a register of `w` bits. DEDUCED (log 15), safe. -/
def lowBits (w : Nat) (v : Word64) : Word64 := (v.setWidth w).setWidth 64

/-- R61: a read of this index now returns an unspecified value. -/
def State.readUnspecified (s : State) (r : RegId) : Bool :=
  r.isResult && s.busy && !decide (s.mode = .halted)

/-- R58, R60 to R62 `reg_read(i)`: the reply is recorded; the engine does not change. An unassigned index reads
0; a result register read during a run is a free draw: DESIGN CHOICE (log 4), safe. -/
def hostRead (index : Nat) (s : State) : State :=
  match regOf index with
  | none => { s with replies := ⟨index, 0#64⟩ :: s.replies }
  | some r =>
    if s.readUnspecified r then
      { s with replies := ⟨index, lowBits r.width (Config.midRunRead s.draws)⟩ :: s.replies,
               draws := s.draws + 1 }
    else { s with replies := ⟨index, r.value s⟩ :: s.replies }

/-- R60: the registers a plain write stores into (line 5 of R59). -/
def storeReg (r : RegId) (v : Word64) (s : State) : Option State :=
  match r with
  | .control => some { s with cancelReq := s.cancelReq || v.getLsbD 0 }
  | .regionStart => some { s with region := { s.region with start := v.setWidth 16 } }
  | .regionLength => some { s with region := { s.region with length := v.setWidth 32 } }
  | .icRef i => some { s with icRef := s.icRef.set i.val (v.setWidth 32) i.isLt }
  | .cfgSettleDelay => some { s with cfg := { s.cfg with settleDelay := v.setWidth 16 } }
  | .cfgConfirmDelay => some { s with cfg := { s.cfg with confirmDelay := v.setWidth 16 } }
  | .cfgConfirmLoops => some { s with cfg := { s.cfg with confirmLoops := v.setWidth 16 } }
  | .cfgStuckPct => some { s with cfg := { s.cfg with stuckPct := v.setWidth 7 } }
  | .cfgXtPct => some { s with cfg := { s.cfg with xtPct := v.setWidth 7 } }
  | .cfgActPct => some { s with cfg := { s.cfg with actPct := v.setWidth 7 } }
  | .cfgRetDelayMs => some { s with cfg := { s.cfg with retDelayMs := v.setWidth 16 } }
  | .cfgRetRepeat => some { s with cfg := { s.cfg with retRepeat := v.setWidth 8 } }
  | .cfgRdReads => some { s with cfg := { s.cfg with rdReads := v.setWidth 8 } }
  | .cmd | .status | .progress => none
  | .frdStuckHigh | .frdStuckLow | .fraStuckHigh | .fraStuckLow | .frcStuckHigh | .frcStuckLow => none
  | .issues | .xtSource | .xtDest | .snap | .xtBaseline | .trTotal | .trBit _ => none
  | .aggTotal | .aggBit _ | .aggFaultyMask | .slogCount => none
  | .slogCmd _ | .slogTotal _ | .slogBit _ _ => none

/-- What becomes of a host write (R59). -/
inductive WriteEffect where
  /-- refused, or stored: the engine's next state -/
  | now (s : State)
  /-- a command word was decoded: the engine is presented with it (lines 5 to 8 of R127) -/
  | present (i : Instr)
  deriving DecidableEq, Repr

/-- R127 lines 3, 4 and what follows: a word written to `CMD` of an idle engine. -/
def cmdWrite (w : Word64) (s : State) : WriteEffect :=
  match decode w with
  | .error .badOpcode => .now (refuse .badOpcode s)
  | .error .badParam => .now (refuse .badParam s)
  | .ok i => .present i

/-- R59 lines 3 to 5: a write to an idle engine. -/
def idleWrite (index : Nat) (v : Word64) (s : State) : WriteEffect :=
  match regOf index with
  | none => .now (refuse .badReg s)
  | some .cmd => cmdWrite v s
  | some r =>
    match storeReg r v s with
    | some t => .now t
    | none => .now (refuse .badReg s)

/-- R59 line 2: a write while a command runs; `CONTROL` alone is performed. -/
def busyWrite (index : Nat) (v : Word64) (s : State) : State :=
  if regOf index = some .control then (storeReg .control v s).getD s else refuse .busy s

/-- R58, R59 `reg_write(i, v)`, the lines in their order. -/
def hostWrite (index : Nat) (v : Word64) (s : State) : WriteEffect :=
  if s.mode = .halted then .now (refuse .halted s)
  else if s.busy then .now (busyWrite index v s)
  else idleWrite index v s

end Sys2Proof.Machine
end

