-- ==== Sys2Proof/Machine/Step.lean ====
section
/-! DEFINITION. One step of the machine: the host's next pending action if it has one (a host action is handled
atomically between two engine steps, 60_exceptions.md rule R358), else one engine step. -/

namespace Sys2Proof.Machine

/-- One engine step. In `HALTED` there is none (R352): DEDUCED (log 13), safe. With `BUSY` = 0 the engine waits
(R390): DEDUCED (log 25), safe. Else the running command, which is the one in `LASTCMD` (R29), takes its next step. -/
def engineStep (s : State) : Host.Outcome State Fault Refusal :=
  if s.mode = .halted then .fault .halted
  else if s.busy then
    match decode s.lastcmd with
    | .ok i => exec i s
    | .error _ => .refused .lastcmdNotACommand
  else .next s

/-- A host write: refused, stored, or a command presented to the idle engine. -/
def writeStep (index : Nat) (v : Word64) (s : State) : Host.Outcome State Fault Refusal :=
  match hostWrite index v s with
  | .now t => .next t
  | .present i => exec i s

/-- The turn a host that has nothing to do leaves to the engine; in `HALTED` it passes.
DESIGN CHOICE (log 5), safe. -/
def idleTurn (s : State) : Host.Outcome State Fault Refusal :=
  if s.mode = .halted then .next s else engineStep s

/-- One step of the machine. -/
def step (s : State) : Host.Outcome State Fault Refusal :=
  match s.host with
  | [] => engineStep s
  | .idle :: rest => idleTurn { s with host := rest }
  | .write index v :: rest => writeStep index v { s with host := rest }
  | .read index :: rest => .next (hostRead index { s with host := rest })
  | .reset :: rest => .next (resetEngine { s with host := rest })

/-- The index of `CMD` (R60). -/
def cmdIndex : Nat := 0x00

/-- The command word `w` (of `nbits` bits, every higher bit 0) as the host's next action: a write of it to
`CMD`, the one place a command is fetched from (R103). The engine must be idle to take it (R127). DEDUCED
(log 6), safe. -/
def State.withFetchWord (s : State) (nbits w : Nat) : State :=
  { s with host := .write cmdIndex (tableWord nbits w) :: s.host }

end Sys2Proof.Machine
end

