-- ==== Sys2Proof/Safety.lean ====
section
/-! DEFINITION. What counts as a safe run, in the terms the statements use: who may act in which mode
(30_encoding.md rule R128, 20_memory.md rule R105), the gate of the `TEST` signal over the trace
(43_activation.md rule R217), the pins at every position of every command (10_state.md rules R33, R34), and
what the result registers and `PROGRESS` always satisfy. Every invariant here is of the whole state and is
meant to be kept by every step of the machine, host actions and reset among them. -/

namespace Sys2Proof.Machine

/-! ### What is running -/

/-- A command is running (R22) and the engine has not halted. -/
abbrev State.Running (s : State) : Prop := s.busy = true ∧ s.mode ≠ .halted

/-- The engine waits for a command. -/
abbrev State.Idle (s : State) : Prop := s.busy = false ∧ s.mode ≠ .halted

/-- `s` runs command `i`: `LASTCMD` is its word (R29). -/
abbrev State.Runs (s : State) (i : Instr) : Prop := s.Running ∧ decode s.lastcmd = .ok i

/-- R330: the command whose body a stage of `FULLPASS` is; stage 0 is the prologue. -/
def stageCommand (stage : Nat) : Instr :=
  match stage with
  | 0 => .clear
  | 1 => .activate
  | 2 => .verifyData
  | 3 => .verifyAddr
  | 4 => .verifyCtrl
  | 5 => .crosstalk
  | 6 => .suite
  | _ => .deactivate

/-- The command whose body is being run: the command itself, or the one of the stage of `FULLPASS`. -/
def current (i : Instr) (q : Seq) : Instr :=
  match i with
  | .fullpass => stageCommand q.stage
  | _ => i

/-- The word of the running command, decoded; `nop` when nothing runs. -/
def State.currentCommand (s : State) : Instr :=
  match s.busy, decode s.lastcmd with
  | true, .ok i => current i s.seq
  | _, _ => .nop

/-! ### Ownership: the mode a command runs in (R21 to R25, R128, R370) -/

/-- R128: the mode while command `i` runs with its `STAGE` at `stage`. -/
def runMode (i : Instr) (stage : Nat) (m : Mode) : Prop :=
  match i with
  | .nop | .clear | .sample => m = .released ∨ m = .owned
  | .activate => m = .released
  | .fullpass => stage ≤ 7 ∧ (stage ≤ 1 → m = .released) ∧ (2 ≤ stage → m = .owned)
  | .deactivate | .verifyData | .verifyAddr | .verifyCtrl | .crosstalk => m = .owned
  | .repwrite _ _ | .repread _ | .checker _ | .walk1 | .walk0 => m = .owned
  | .marchc | .marchss | .marchla | .movinv _ | .retention _ _ _ => m = .owned
  | .readdestr _ _ | .addruniq _ | .suite => m = .owned

/-- R21 to R25, R128: `FATAL` is nonzero exactly in `HALTED`; in `HALTED` `BUSY` is 1; `DONE` and `CANCELLED`
are 0 while a command runs; and the running command is one its mode allows. -/
def OwnershipInv (s : State) : Prop :=
  (s.fatal ≠ .none ↔ s.mode = .halted) ∧
  (s.mode = .halted → s.busy = true) ∧
  (s.busy = true → s.done = false ∧ s.cancelled = false) ∧
  (s.busy = true → s.mode ≠ .halted →
    ∃ i, decode s.lastcmd = .ok i ∧ runMode i s.seq.stage s.mode)

/-! ### The gate over the trace (R217) -/

/-- R217: a bus operation that only the owner of the bus may issue; every one but `CtlDir(TEST,·)`,
`CtlWrite(TEST,·)`, the reads of lines, and `Delay`. -/
def gated (e : Event) : Bool :=
  match e with
  | .ctlDir g _ | .ctlWrite g _ => decide (g ≠ .test)
  | .dataDir _ | .dataWrite _ | .addrDir _ | .addrWrite _ => true
  | .memRead _ _ | .memWrite _ _ | .delayMs _ => true
  | .dataRead _ | .addrRead _ | .ctlRead _ _ | .delay _ | .reset => false

/-- R217: in a trace (the latest event first), whether a `CtlWrite(TEST, true)` stands open: no
`CtlWrite(TEST, false)` and no reset since. -/
def gateOpen : List Event → Bool
  | [] => false
  | .ctlWrite .test b :: _ => b
  | .reset :: _ => false
  | _ :: rest => gateOpen rest

/-- R217: every gated operation of the trace was issued while the gate stood open. -/
def gateKept : List Event → Prop
  | [] => True
  | e :: rest => (gated e = true → gateOpen rest = true) ∧ gateKept rest

/-- The deactivation has driven `TEST` inactive: nothing but its confirmation and release is left. -/
def closing (i : Instr) (q : Seq) : Prop := current i q = .deactivate ∧ q.op ≠ 0

/-- The activation has driven `TEST` active: nothing but its confirmation is left. -/
def opening (i : Instr) (q : Seq) : Prop := current i q = .activate ∧ 4 ≤ q.op

/-- R217: the gate was kept; it stands open whenever the engine owns the bus and is not closing it, and from
the moment an activation has opened it. -/
def GateInv (s : State) : Prop :=
  OwnershipInv s ∧ gateKept s.trace ∧
  (s.mode = .owned → (∀ i, s.Runs i → ¬ closing i s.seq) → gateOpen s.trace = true) ∧
  (∀ i, s.Runs i → opening i s.seq → gateOpen s.trace = true)

/-! ### The pins (R30 to R34, R185, R352) -/

/-- A direction and a latch. -/
structure LineState where
  dir : Dir
  out : Bool
  deriving DecidableEq, Repr

/-- R33: a control signal in the quiescent state (`TEST` as R34 has it in `RELEASED`). -/
def quietLine (g : Sig) : LineState :=
  match g with
  | .int | .wait => ⟨.output, false⟩
  | .ras | .mux | .cas | .rd | .wr | .ioIn | .ioOut | .sysRes | .intAck | .test => ⟨.input, false⟩

/-- R34: `TEST` in a mode; in `HALTED` by the cause (R214, R216). -/
def testLine (m : Mode) (c : FatalCause) : LineState :=
  match m, c with
  | .released, _ => ⟨.input, false⟩
  | .owned, _ => ⟨.output, true⟩
  | .halted, .activateFailed => ⟨.output, true⟩
  | .halted, .deactivateFailed => ⟨.output, false⟩
  | .halted, _ => ⟨.input, false⟩

/-- R212, R215: `TEST` while command `i` runs, at step `op` of it. -/
def runningTestLine (i : Instr) (op : Nat) (m : Mode) : LineState :=
  match i with
  | .activate => if op ≤ 2 then ⟨.input, false⟩ else if op = 3 then ⟨.output, false⟩ else ⟨.output, true⟩
  | .deactivate => if op = 0 then ⟨.output, true⟩ else if op ≤ 2 then ⟨.output, false⟩ else ⟨.input, false⟩
  | _ => testLine m .none

/-- R155, R158: the direction and latch of the bus under test. -/
def busPins (ones : BitVec 16) (phase op : Nat) : Dir × BitVec 16 :=
  match phase with
  | 0 => (.input, 0#16)
  | 1 => (if op = 0 then .input else .output, 0#16)
  | 2 => (.output, 0#16)
  | 3 => (.output, if op = 0 then 0#16 else ones)
  | _ => if op = 0 then (.output, ones) else if op = 1 then (.output, 0#16) else (.input, 0#16)

/-- R161: a signal of `G` while `VERIFY_CTRL` runs; `c` signals of the list are done. -/
def ctrlGLine (j c phase op : Nat) : LineState :=
  match phase with
  | 0 => ⟨.input, false⟩
  | 1 =>
    if op = 0 then ⟨if j < c then .output else .input, false⟩
    else if op = 1 then ⟨.output, decide (j < c)⟩
    else ⟨.output, true⟩
  | 2 => ⟨.output, true⟩
  | 3 => if op = 0 then ⟨.output, !decide (j < c)⟩ else ⟨.output, false⟩
  | _ => if op = 0 then ⟨if j < c then .input else .output, false⟩ else ⟨.input, false⟩

/-- R161 to R163: a control signal other than `TEST` while `VERIFY_CTRL` runs at `q`. -/
def ctrlLine (q : Seq) (g : Sig) : LineState :=
  match g with
  | .ras | .mux | .cas | .rd | .wr | .ioIn | .ioOut => ctrlGLine g.idx.val (q.posk - 24) q.phase q.op
  | .int | .wait =>
    if q.phase = 3 ∧ 4 ≤ q.op ∧ q.op ≤ 6 ∧ g = sigW q.posk then ⟨.input, false⟩ else ⟨.output, false⟩
  | .sysRes | .intAck | .test => ⟨.input, false⟩

/-- R185: a control signal other than `TEST` while `CROSSTALK` has position `posk` at step `op`. -/
def xtLine (posk op : Nat) (g : Sig) : LineState :=
  if driverOf posk = .generic g ∧ 1 ≤ op ∧ op ≤ 34 then ⟨.output, decide (2 ≤ op ∧ op ≤ 33)⟩
  else if driverOf posk = .writeOnly g then ⟨.output, decide (1 ≤ op ∧ op ≤ 33)⟩
  else quietLine g

/-- R161: where `POSK` stands while `VERIFY_CTRL` walks a list. -/
def ctrlPosk (q : Seq) : Prop :=
  match q.phase with
  | 0 => True
  | 1 => 24 ≤ q.posk ∧ q.posk ≤ 30
  | 2 => 24 ≤ q.posk ∧ q.posk ≤ 31
  | 3 => if q.op ≤ 2 then 24 ≤ q.posk ∧ q.posk ≤ 30 else if q.op ≤ 6 then q.posk = 33 ∨ q.posk = 35 else True
  | _ => q.op = 0 → 24 ≤ q.posk ∧ q.posk ≤ 30

/-- The value on the data bus latch and its direction while `i` runs. -/
def runDataPins (i : Instr) (q : Seq) : Dir × BitVec 16 :=
  match i with
  | .verifyData => busPins Bus.data.ones q.phase q.op
  | .crosstalk =>
    if q.phase ≠ 0 ∧ 16 ≤ q.posk ∧ q.posk < 24 ∧ 1 ≤ q.op ∧ q.op ≤ 34 then
      (.output, if 2 ≤ q.op ∧ q.op ≤ 33 then 1#16 <<< (q.posk - 16) else 0#16)
    else (.input, 0#16)
  | _ => (.input, 0#16)

/-- The value on the address bus latch and its direction while `i` runs. -/
def runAddrPins (i : Instr) (q : Seq) : Dir × BitVec 16 :=
  match i with
  | .verifyAddr => busPins Bus.address.ones q.phase q.op
  | .crosstalk =>
    if q.phase ≠ 0 ∧ q.posk < 16 ∧ 1 ≤ q.op ∧ q.op ≤ 34 then
      (.output, if 2 ≤ q.op ∧ q.op ≤ 33 then 1#16 <<< q.posk else 0#16)
    else (.input, 0#16)
  | _ => (.input, 0#16)

/-- A control signal other than `TEST` while `i` runs. -/
def runLine (i : Instr) (q : Seq) (g : Sig) : LineState :=
  match i with
  | .verifyCtrl => ctrlLine q g
  | .crosstalk => if q.phase = 0 then quietLine g else xtLine q.posk q.op g
  | _ => quietLine g

/-- The pins `p` have the two buses as given. -/
def busesAre (p : Pins) (data addr : Dir × BitVec 16) : Prop :=
  p.dataDir = data.1 ∧ p.dataOut = data.2.setWidth 8 ∧ p.addrDir = addr.1 ∧ p.addrOut = addr.2

/-- The pins `p` have control signal `g` as given. -/
def lineIs (p : Pins) (g : Sig) (l : LineState) : Prop := p.dirOf g = l.dir ∧ p.outOf g = l.out

/-- R33: the pins other than `TEST` are quiescent. -/
def quiescent (p : Pins) : Prop :=
  busesAre p (.input, 0#16) (.input, 0#16) ∧ ∀ g, g ≠ .test → lineIs p g (quietLine g)

/-- The pins while command `i` runs at `q`. -/
def runningPins (i : Instr) (q : Seq) (m : Mode) (p : Pins) : Prop :=
  busesAre p (runDataPins i q) (runAddrPins i q) ∧
  (∀ g, g ≠ .test → lineIs p g (runLine i q g)) ∧
  lineIs p .test (runningTestLine i q.op m) ∧
  (i = .verifyCtrl → ctrlPosk q)

/-- R34, R214, R216, R352: the pins in every state. -/
def PinsInv (s : State) : Prop :=
  OwnershipInv s ∧
  (s.busy = false → quiescent s.pins ∧ lineIs s.pins .test (testLine s.mode .none)) ∧
  (s.mode = .halted → quiescent s.pins ∧ lineIs s.pins .test (testLine .halted s.fatal)) ∧
  (∀ i, s.Runs i → runningPins (current i s.seq) s.seq s.mode s.pins)

/-! ### Result registers -/

/-- R44: each bit of `ISSUES` summarises its record. -/
def IssuesInv (s : State) : Prop :=
  s.res.issues.getLsbD 0 = s.res.frd.hasIssues ∧
  s.res.issues.getLsbD 1 = s.res.fra.hasIssues ∧
  s.res.issues.getLsbD 2 = s.res.frc.hasIssues ∧
  s.res.issues.getLsbD 3 = decide (s.res.xtSource ≠ 0#64)

/-- R45, R131: bits 63:36 of a snapshot or a mask are 0. -/
def low36 (v : Word64) : Prop := ∀ k, 36 ≤ k → v.getLsbD k = false

/-- R190: a source mask has bits only at drivable positions. -/
def drivableOnly (v : Word64) : Prop := ∀ k, v.getLsbD k = true → k ∈ drivable

/-- R45, R131, R190: the crosstalk registers, and the working registers they are made from. -/
def CrosstalkInv (s : State) : Prop :=
  low36 s.res.snap ∧ low36 s.res.xtBaseline ∧ low36 s.work.cur ∧ low36 s.work.u0 ∧
  low36 s.res.xtDest ∧ low36 s.work.dst ∧
  drivableOnly s.res.xtSource ∧ drivableOnly s.work.src ∧
  (s.res.xtSource = 0#64 ↔ s.res.xtDest = 0#64) ∧ (s.work.src = 0#64 ↔ s.work.dst = 0#64) ∧
  (s.currentCommand = .crosstalk → s.seq.phase ≠ 0 →
    s.seq.posk ∈ drivable ∧ (18 ≤ s.seq.op → s.seq.op ≤ 32 → s.work.u0 ≠ 0#64))

/-- R43, R162 to R164: the bits of a control record that are always 0: stuck high only of the seven generic
signals (bits 0 to 6), and no bit of `TEST` (bit 10). -/
def ctrlBitsLegal {w : Nat} (high low : BitVec w) : Prop :=
  (∀ k, 7 ≤ k → high.getLsbD k = false) ∧ low.getLsbD 10 = false

/-- R43, R162 to R164: the control FaultRecord. -/
def CtrlRecordInv (s : State) : Prop :=
  ctrlBitsLegal s.res.frc.stuckHigh s.res.frc.stuckLow ∧
  (s.currentCommand = .verifyCtrl → s.seq.phase ≠ 0 → ctrlBitsLegal s.work.sh s.work.sl)

/-- R236: a TestResult's counters against its total. -/
def TestResult.Sound (r : TestResult) : Prop :=
  (∀ i, (r.bit.get i).toNat ≤ r.total.toNat) ∧
  r.total.toNat ≤ ((List.finRange 8).map fun i => (r.bit.get i).toNat).sum

/-- R236, R322, R325: the results of the last algorithm, of the aggregate and of every logged call. -/
def CountersInv (s : State) : Prop :=
  s.res.tr.Sound ∧ s.res.agg.Sound ∧ ∀ c, (s.res.slog.get c).result.Sound

/-! ### PROGRESS (R27) -/

/-- R237, R312: the number of phases of a memory algorithm. -/
def memPhaseCount (i : Instr) : Nat :=
  match i with
  | .walk1 | .walk0 => 16
  | .marchss => 6
  | .marchc | .marchla | .movinv _ => 4
  | .retention _ _ _ => 3
  | .repwrite _ _ | .repread _ | .checker _ | .readdestr _ _ | .addruniq _ => 2
  | .nop | .activate | .deactivate | .clear | .verifyData | .verifyAddr | .verifyCtrl | .sample
  | .crosstalk | .suite | .fullpass => 1

/-- R27: the value `PROGRESS` has reached at most, while `i` runs at `q`. -/
def progressBound (i : Instr) (q : Seq) : Nat :=
  match i with
  | .nop | .activate | .deactivate | .clear | .sample => 0
  | .verifyData | .verifyAddr | .verifyCtrl => 100 * (q.phase - 1) / 4
  | .crosstalk => 100 * (q.phase - 1) / 33
  | .suite => if q.phase = 0 ∧ q.op = 0 then 0 else 100 * q.call / 19
  | .fullpass => 100 * (q.stage - 1) / 7
  | .repwrite _ _ | .repread _ | .checker _ | .walk1 | .walk0 | .marchc | .marchss | .marchla
  | .movinv _ | .retention _ _ _ | .readdestr _ _ | .addruniq _ =>
    100 * (q.phase - 1) / memPhaseCount i

/-- R27: `PROGRESS` is 0 to 100, and while a command runs at most what its finished phases give. -/
def ProgressInv (s : State) : Prop :=
  s.progress.toNat ≤ 100 ∧
  ∀ i, s.busy = true → decode s.lastcmd = .ok i → s.progress.toNat ≤ progressBound i s.seq

/-! ### The faithful memory (R274) -/

/-- The byte of the latest `MemWrite` to `a` in a trace (the latest event first). -/
def lastWritten (a : Addr) : List Event → Option Byte
  | [] => none
  | .memWrite b v :: rest => if b = a then some v else lastWritten a rest
  | _ :: rest => lastWritten a rest

/-- R274: the environment whose memory stores what is written: its answer to a `MemRead` of the cell the
engine stands at is the byte of the latest `MemWrite` there. (What a cell never written answers is left to
`other`.) -/
def faithfulAnswer (other : Byte) (s : State) : BitVec 16 :=
  ((lastWritten (s.region.addr s.seq.posk) s.trace).getD other).setWidth 16

/-- `n` steps of the machine, the host silent, against the faithful memory. -/
def runFaithful (other : Byte) : Nat → State → Host.Outcome State Fault Refusal
  | 0, s => .next s
  | n + 1, s =>
    match step { s with answers := [faithfulAnswer other s], host := [] } with
    | .next t => runFaithful other n t
    | .fault r => .fault r
    | .refused r => .refused r

end Sys2Proof.Machine
end

