-- ==== Sys2Proof/Certificates/Slice0/Obligations.lean ====
section
/-! DEFINITION. The statements for the provers, and, before them in `Sys2Proof.Spec`, the vocabulary they
are written in: the tables of spec/ (registers, opcodes, passes, suite), set down here a second time
from the spec and not from the model's definitions, so that a statement compares two readings. -/

namespace Sys2Proof.Spec
open Sys2Proof Sys2Proof.Machine

/-! ### Runs -/

/-- `n` engine steps of command `i` (R99: one after another, nothing between them). -/
def execN (i : Instr) : Nat → State → Host.Outcome State Fault Refusal
  | 0, s => .next s
  | n + 1, s =>
    match exec i s with
    | .next t => execN i n t
    | .fault r => .fault r
    | .refused r => .refused r

/-- R50: the start of a command. -/
def seqZero : Seq := { stage := 0, call := 0, phase := 0, posk := 0, op := 0, sample := 0 }

/-! ### One bus operation, as the tables of R81 to R88 have it -/

/-- An event and no other effect: a delay, a `MemWrite`. -/
def issue (e : Event) (s : State) : State := { s with trace := e :: s.trace }

/-- A read that answers `v`: `RDV`, the answer used up, the event. -/
def readBack (v : BitVec 16) (e : Event) (s : State) : State :=
  { s with
    work := { s.work with rdv := v }
    answers := s.answers.tail
    answered := s.answered + 1
    trace := e :: s.trace }

/-- The level a control signal reads. -/
def level (s : State) : Bool := s.answer.getLsbD 0

/-- The byte a data or memory read returns. -/
def byteRead (s : State) : Byte := s.answer.setWidth 8

/-- `DataRead`. -/
def readData (s : State) : State := readBack ((byteRead s).setWidth 16) (.dataRead (byteRead s)) s

/-- `AddrRead`. -/
def readAddr (s : State) : State := readBack s.answer (.addrRead s.answer) s

/-- `CtlRead(g)`. -/
def readCtl (g : Sig) (s : State) : State :=
  readBack (if level s then 1#16 else 0#16) (.ctlRead g (level s)) s

/-- `CtlDir(g, d)`. -/
def setDir (g : Sig) (d : Dir) (s : State) : State :=
  issue (.ctlDir g d) { s with pins := { s.pins with ctlDir := s.pins.ctlDir.set g.idx.val d g.idx.isLt } }

/-- `CtlWrite(g, b)`. -/
def setOut (g : Sig) (b : Bool) (s : State) : State :=
  issue (.ctlWrite g b) { s with pins := { s.pins with ctlOut := s.pins.ctlOut.set g.idx.val b g.idx.isLt } }

/-- `DataDir(d)`. -/
def setDataDir (d : Dir) (s : State) : State :=
  issue (.dataDir d) { s with pins := { s.pins with dataDir := d } }

/-- `DataWrite(v)`. -/
def setDataOut (v : Byte) (s : State) : State :=
  issue (.dataWrite v) { s with pins := { s.pins with dataOut := v } }

/-- `AddrDir(d)`. -/
def setAddrDir (d : Dir) (s : State) : State :=
  issue (.addrDir d) { s with pins := { s.pins with addrDir := d } }

/-- `AddrWrite(v)`. -/
def setAddrOut (v : Addr) (s : State) : State :=
  issue (.addrWrite v) { s with pins := { s.pins with addrOut := v } }

/-- `Delay(CFG_SETTLE_DELAY)`. -/
def waitSettle (s : State) : State := issue (.delay s.cfg.settleDelay.toNat) s

/-- `Delay(CFG_CONFIRM_DELAY)`. -/
def waitConfirm (s : State) : State := issue (.delay s.cfg.confirmDelay.toNat) s

/-! ### Where a command stands, and how it ends -/

/-- Step `o` of the same phase. -/
def atOp (o : Nat) (s : State) : State := { s with seq := { s.seq with op := o } }

/-- Position `k`, step `o` of the same phase. -/
def atPos (k o : Nat) (s : State) : State := { s with seq := { s.seq with posk := k, op := o, sample := 0 } }

/-- Phase `p`, position `k`, its first step. -/
def atPhase (p k : Nat) (s : State) : State :=
  { s with seq := { s.seq with phase := p, posk := k, op := 0, sample := 0 } }

/-- R14: a confirmation loop begins. -/
def noHits (s : State) : State :=
  { s with work := { s.work with hits := 0#16 }, seq := { s.seq with sample := 0 } }

/-- R14, R151: the confirmation begins with line `k`, if the mask `cand` of a bus of `n` lines has it. -/
def lineBegins (k n : Nat) (s : State) : State :=
  if k < n ∧ s.work.cand.getLsbD k = true then noHits s else s

/-- R14: one more sample, a hit or not. -/
def sampled (hit : Bool) (s : State) : State :=
  { s with
    work := { s.work with hits := s.work.hits + (if hit then 1#16 else 0#16) }
    seq := { s.seq with sample := s.seq.sample + 1 } }

/-- R14: samples remain. -/
abbrev moreSamples (s : State) : Prop := s.seq.sample < s.cfg.confirmLoops.toNat

/-- R14: the threshold is reached. -/
abbrev enoughHits (pct : BitVec 7) (s : State) : Prop :=
  pct.toNat * s.cfg.confirmLoops.toNat ≤ s.work.hits.toNat * 100

/-- R129: what acceptance of the word `w` leaves in the registers it names; `SEQ` apart. -/
def accepted (w : Word64) (s : State) : State :=
  { s with lastcmd := w, busy := true, done := false, cancelled := false, cancelReq := false,
           err := .none, progress := 0#7 }

/-- R130: normal completion. -/
def completed (s : State) : State :=
  { s with busy := false, done := true, cancelReq := false, progress := 100#7 }

/-- R130, R335: completion after a cancel point. -/
def completedCancelled (s : State) : State :=
  { s with busy := false, done := true, cancelReq := false, cancelled := true }

/-- R352. -/
def halted (c : FatalCause) (s : State) : State := { s with fatal := c, mode := .halted }

/-- `PROGRESS <- n`. -/
def progressed (n : Nat) (s : State) : State := { s with progress := BitVec.ofNat 7 n }

/-- Bit `k` of `v` made `b`. -/
def withBit {w : Nat} (v : BitVec w) (k : Nat) (b : Bool) : BitVec w :=
  (v &&& ~~~(1#w <<< k)) ||| (if b then 1#w <<< k else 0#w)

/-! ### The host's view: R60 -/

/-- R60: every register, its index, its width and its value, zero-extended to 64 bits. -/
def registers (s : State) : List (Nat × Nat × Word64) :=
  [(0x00, 64, s.lastcmd), (0x01, 32, s.status.setWidth 64), (0x02, 7, s.progress.setWidth 64),
   (0x03, 32, if s.cancelReq then 1#64 else 0#64), (0x04, 16, s.region.start.setWidth 64),
   (0x05, 32, s.region.length.setWidth 64), (0x10, 16, s.cfg.settleDelay.setWidth 64),
   (0x11, 16, s.cfg.confirmDelay.setWidth 64), (0x12, 16, s.cfg.confirmLoops.setWidth 64),
   (0x13, 7, s.cfg.stuckPct.setWidth 64), (0x14, 7, s.cfg.xtPct.setWidth 64),
   (0x15, 7, s.cfg.actPct.setWidth 64), (0x16, 16, s.cfg.retDelayMs.setWidth 64),
   (0x17, 8, s.cfg.retRepeat.setWidth 64), (0x18, 8, s.cfg.rdReads.setWidth 64),
   (0x20, 8, s.res.frd.stuckHigh.setWidth 64), (0x21, 8, s.res.frd.stuckLow.setWidth 64),
   (0x22, 16, s.res.fra.stuckHigh.setWidth 64), (0x23, 16, s.res.fra.stuckLow.setWidth 64),
   (0x24, 12, s.res.frc.stuckHigh.setWidth 64), (0x25, 12, s.res.frc.stuckLow.setWidth 64),
   (0x26, 4, s.res.issues.setWidth 64), (0x28, 64, s.res.xtSource), (0x29, 64, s.res.xtDest),
   (0x2A, 64, s.res.snap), (0x2B, 64, s.res.xtBaseline), (0x30, 32, s.res.tr.total.setWidth 64),
   (0x40, 32, s.res.agg.total.setWidth 64), (0x49, 8, s.res.aggFaultyMask.setWidth 64),
   (0x4A, 5, s.res.slogCount.setWidth 64)]
  ++ (List.finRange 8).map (fun i => (0x08 + i.val, 32, (s.icRef.get i).setWidth 64))
  ++ (List.finRange 8).map (fun i => (0x31 + i.val, 32, (s.res.tr.bit.get i).setWidth 64))
  ++ (List.finRange 8).map (fun i => (0x41 + i.val, 32, (s.res.agg.bit.get i).setWidth 64))
  ++ (List.finRange 19).flatMap (fun c =>
      [(0x100 + 16 * c.val, 64, (s.res.slog.get c).cmd),
       (0x101 + 16 * c.val, 32, (s.res.slog.get c).result.total.setWidth 64)]
      ++ (List.finRange 8).map (fun i =>
          (0x102 + 16 * c.val + i.val, 32, ((s.res.slog.get c).result.bit.get i).setWidth 64)))

/-- R60: the indices with access `RW`. -/
abbrev writable (index : Nat) : Prop :=
  index = 0x00 ∨ (0x03 ≤ index ∧ index ≤ 0x05) ∨ (0x08 ≤ index ∧ index ≤ 0x0F) ∨ (0x10 ≤ index ∧ index ≤ 0x18)

/-- R60: the reset values that are not 0. -/
def resetValue (index : Nat) : Word64 :=
  match index with
  | 0x10 => 10#64
  | 0x11 => 1#64
  | 0x12 => 200#64
  | 0x13 => 100#64
  | 0x14 => 80#64
  | 0x15 => 90#64
  | 0x16 => 100#64
  | 0x17 => 10#64
  | 0x18 => 5#64
  | _ => 0#64

/-- R390, R391: the machine right after reset, but for the working registers, which R390 leaves open. -/
def IsReset (t : State) : Prop :=
  t.mode = .released ∧ t.busy = false ∧ t.done = false ∧ t.err = .none ∧ t.fatal = .none ∧
  t.cancelReq = false ∧ t.cancelled = false ∧ t.progress = 0#7 ∧ t.lastcmd = 0#64 ∧ t.seq = seqZero ∧
  (∀ e ∈ registers t, e.2.2 = resetValue e.1) ∧
  t.pins.dataDir = .input ∧ t.pins.dataOut = 0#8 ∧ t.pins.addrDir = .input ∧ t.pins.addrOut = 0#16 ∧
  ∀ g : Sig, t.pins.ctlOut.get g.idx = false ∧
    t.pins.ctlDir.get g.idx = if g = .int ∨ g = .wait then .output else .input

/-! ### The opcode map: R121, R123, R128, R359 -/

/-- R359: the configuration check groups. -/
inductive Group where
  | none | act | stuck | xt | all
  deriving DecidableEq, Repr

/-- A row of R123: the opcode, the mask of its format (R121), whether it is legal in `RELEASED` and in
`OWNED`, whether the region is checked, and its configuration group. -/
structure Row where
  op : Nat
  mask : Nat
  released : Bool
  owned : Bool
  region : Bool
  group : Group
  deriving DecidableEq, Repr

/-- R121: the masks of the formats Z, P, T, PT, PN, PDN. -/
def maskZ : Nat := 0xFFFFFFFFFFFFFFFF
/-- R121 -/
def maskP : Nat := 0xFFFFFFFFFFFF00FF
/-- R121 -/
def maskT : Nat := 0xFFFFFFFFFFFEFFFF
/-- R121 -/
def maskPT : Nat := 0xFFFFFFFFFFFE00FF
/-- R121 -/
def maskPN : Nat := 0xFFFFFFFF00FF00FF
/-- R121 -/
def maskPDN : Nat := 0xFFFF000000FF00FF

/-- R123. -/
def rows : List Row :=
  [⟨0x00, maskZ, true, true, false, .none⟩, ⟨0x01, maskZ, true, false, false, .act⟩,
   ⟨0x02, maskZ, false, true, false, .act⟩, ⟨0x03, maskZ, true, true, false, .none⟩,
   ⟨0x10, maskZ, false, true, false, .stuck⟩, ⟨0x11, maskZ, false, true, false, .stuck⟩,
   ⟨0x12, maskZ, false, true, false, .stuck⟩, ⟨0x18, maskZ, true, true, false, .none⟩,
   ⟨0x19, maskZ, false, true, false, .xt⟩, ⟨0x20, maskPT, false, true, true, .none⟩,
   ⟨0x21, maskP, false, true, true, .none⟩, ⟨0x22, maskT, false, true, true, .none⟩,
   ⟨0x23, maskZ, false, true, true, .none⟩, ⟨0x24, maskZ, false, true, true, .none⟩,
   ⟨0x25, maskZ, false, true, true, .none⟩, ⟨0x26, maskZ, false, true, true, .none⟩,
   ⟨0x27, maskZ, false, true, true, .none⟩, ⟨0x28, maskP, false, true, true, .none⟩,
   ⟨0x29, maskPDN, false, true, true, .none⟩, ⟨0x2A, maskPN, false, true, true, .none⟩,
   ⟨0x2B, maskP, false, true, true, .none⟩, ⟨0x30, maskZ, false, true, true, .none⟩,
   ⟨0x3F, maskZ, true, false, true, .all⟩]

/-- The row a word's opcode field selects. -/
def rowFor (w : Word64) : Option Row := rows.find? fun r => r.op == w.toNat % 256

/-- R359: a legal percentage. -/
def pctOk (p : BitVec 7) : Bool := decide (1 ≤ p.toNat ∧ p.toNat ≤ 100)

/-- R359. -/
def groupOk (g : Group) (c : Cfg) : Bool :=
  let loops := decide (1 ≤ c.confirmLoops.toNat)
  match g with
  | .none => true
  | .act => loops && pctOk c.actPct
  | .stuck => loops && pctOk c.stuckPct
  | .xt => loops && pctOk c.xtPct
  | .all => loops && pctOk c.actPct && pctOk c.stuckPct && pctOk c.xtPct

/-- R127, R129: what becomes of the word `w` written to `CMD`; `s` is the engine, the first line that matches
decides. -/
def commandWritten (w : Word64) (s : State) : State :=
  if s.mode = .halted then { s with err := .halted }
  else if s.busy = true then { s with err := .busy }
  else match rowFor w with
    | none => { s with err := .badOpcode }
    | some r =>
      if w &&& BitVec.ofNat 64 r.mask ≠ BitVec.ofNat 64 r.op then { s with err := .badParam }
      else if ¬ (if s.mode = .released then r.released else r.owned) = true then { s with err := .badState }
      else if ¬ groupOk r.group s.cfg = true then { s with err := .badConfig }
      else if r.region = true ∧ 65536 < s.region.length.toNat then { s with err := .badRegion }
      else { s with lastcmd := w, busy := true, done := false, cancelled := false, cancelReq := false,
                    err := .none, progress := 0#7, seq := seqZero }

/-- R120, R123: the bits of the word that command `i` uses: its opcode and its operand fields. -/
def usesBit (i : Instr) (k : Nat) : Prop :=
  let p := 8 ≤ k ∧ k ≤ 15
  let t := k = 16
  let n := 24 ≤ k ∧ k ≤ 31
  let d := 32 ≤ k ∧ k ≤ 47
  k ≤ 7 ∨
  match i with
  | .repwrite _ _ => p ∨ t
  | .repread _ | .movinv _ | .addruniq _ => p
  | .checker _ => t
  | .retention _ _ _ => p ∨ d ∨ n
  | .readdestr _ _ => p ∨ n
  | _ => False

/-- R123: the opcode numbers. -/
def opcodeOf (i : Instr) : Nat :=
  match i with
  | .nop => 0x00 | .activate => 0x01 | .deactivate => 0x02 | .clear => 0x03
  | .verifyData => 0x10 | .verifyAddr => 0x11 | .verifyCtrl => 0x12
  | .sample => 0x18 | .crosstalk => 0x19
  | .repwrite _ _ => 0x20 | .repread _ => 0x21 | .checker _ => 0x22 | .walk1 => 0x23 | .walk0 => 0x24
  | .marchc => 0x25 | .marchss => 0x26 | .marchla => 0x27 | .movinv _ => 0x28
  | .retention _ _ _ => 0x29 | .readdestr _ _ => 0x2A | .addruniq _ => 0x2B
  | .suite => 0x30 | .fullpass => 0x3F

/-! ### The pass tables: R232 to R257, R270 to R273, R281 to R285, R302, R312 -/

/-- R233: an operation on one cell, with the byte its value function gives at an address. -/
inductive CellStep where
  | write (v : Addr → Byte)
  | compare (v : Addr → Byte)
  | discard
  | repeatStop (v : Addr → Byte) (n : Nat)

/-- R232, R311: a pass (descending or not), or the wait of RETENTION. -/
inductive Phase where
  | pass (descending : Bool) (ops : List CellStep)
  | wait (ms n : Nat)

/-- R234: the cell's parity. -/
def odd (a : Addr) : Bool := decide (a.toNat % 2 = 1)

/-- R241. -/
def tog (p : Byte) (t : Bool) (a : Addr) : Byte := if t = true ∧ odd a = true then p ^^^ 0xFF#8 else p

/-- R247. -/
def chk (t : Bool) (a : Addr) : Byte := if odd a = t then 0x55#8 else 0xAA#8

/-- R253. -/
def uniq (p : Byte) (a : Addr) : Byte := BitVec.ofNat 8 (a.toNat % 256) ^^^ p

/-- A constant value function. -/
def const (c : Byte) (_ : Addr) : Byte := c

/-- R281. -/
def w0 : CellStep := .write (const 0x00#8)
/-- R281 -/
def w1 : CellStep := .write (const 0xFF#8)
/-- R281 -/
def r0 : CellStep := .compare (const 0x00#8)
/-- R281 -/
def r1 : CellStep := .compare (const 0xFF#8)

/-- R272, R273: the sixteen passes of a walking bit. -/
def walk (pattern : Nat → Byte) : List Phase :=
  (List.range 8).flatMap fun b =>
    [.pass false [.write (const (pattern b))], .pass false [.compare (const (pattern b))]]

/-- The pass tables of the twelve memory algorithms; a command that is none has no phase. -/
def phases (i : Instr) : List Phase :=
  match i with
  | .repwrite p t =>
    [.pass false [.write (tog p t), .write (tog p t), .write (tog p t), .write (tog p t), .write (tog p t)],
     .pass false [.compare (tog p t)]]
  | .repread p =>
    [.pass false [.write (const p)],
     .pass false [.discard, .discard, .discard, .discard, .compare (const p)]]
  | .checker t => [.pass false [.write (chk t)], .pass false [.compare (chk t)]]
  | .walk1 => walk fun b => BitVec.ofNat 8 (2 ^ b)
  | .walk0 => walk fun b => BitVec.ofNat 8 (255 - 2 ^ b)
  | .marchc => [.pass false [w0], .pass false [r0, w1], .pass true [r1, w0], .pass true [r0]]
  | .marchss =>
    [.pass false [w0], .pass true [r0, w1], .pass false [r1, w0], .pass true [r0, w1],
     .pass false [r1, w0], .pass true [r0]]
  | .marchla =>
    [.pass false [w0], .pass false [r0, w1, w0, w1], .pass true [r1, w0, w1, w0], .pass true [r0]]
  | .movinv p =>
    [.pass false [.write (const p)], .pass false [.compare (const p), .write (const (p ^^^ 0xFF#8))],
     .pass false [.compare (const (p ^^^ 0xFF#8)), .write (const p)], .pass false [.compare (const p)]]
  | .retention p d n =>
    [.pass false [.write (const p)], .wait d n, .pass false [.compare (const p)]]
  | .readdestr p n => [.pass false [.write (const p)], .pass false [.repeatStop (const p) n]]
  | .addruniq p => [.pass false [.write (uniq p)], .pass false [.compare (uniq p)]]
  | _ => []

/-- R92: the address of cell `k`. -/
def cellAddr (r : Region) (k : Nat) : Addr := BitVec.ofNat 16 ((r.start.toNat + k) % 65536)

/-- R94: the cells of a pass over `len` cells, in the order they are visited. -/
def cells (descending : Bool) (len : Nat) : List Nat :=
  if descending then (List.range len).reverse else List.range len

/-- R50, R94: the position after cell `k`; 65536 after the last. -/
def afterCell (descending : Bool) (len k : Nat) : Nat :=
  if descending then (if k = 0 then 65536 else k - 1) else (if k + 1 < len then k + 1 else 65536)

/-- R123: the operand `P` of a command that has one. -/
def pattern (i : Instr) : Option Byte :=
  match i with
  | .repwrite p _ | .repread p | .movinv p | .retention p _ _ | .readdestr p _ | .addruniq p => some p
  | _ => none

/-- R51: `PAT` while command `i` runs: its operand `P`; a command without one leaves the register (R52). -/
def patOf (i : Instr) (s : State) : Byte := (pattern i).getD s.work.pat

/-- R51, R272, R273: `BITIX` at a step of command `i`: passes 1 and 2 of a walking bit are those of bit 0,
passes 3 and 4 those of bit 1, and so on; a command without a walking bit leaves the register (R52). -/
def bitixOf (i : Instr) (s : State) : BitVec 4 :=
  match i with
  | .walk1 | .walk0 => BitVec.ofNat 4 ((s.seq.phase - 1) / 2)
  | _ => s.work.bitix

/-- R312: `RDCNT` is written where the wait begins, at no other phase. -/
def rdcntAt (p : Option Phase) (s : State) : Byte :=
  match p with
  | some (.wait _ _) => 0#8
  | _ => s.work.rdcnt

/-- R250: the reads done on the current cell: none where its reads begin, at iteration 0 (R50). -/
def readsDone (s : State) : Byte := if s.seq.sample = 0 then 0#8 else s.work.rdcnt

/-- R50, R94: the position a phase begins at. -/
def firstCell (p : Option Phase) (len : Nat) : Nat :=
  match p with
  | some (.pass d _) => ((cells d len).head?).getD 65536
  | _ => 0

/-- The operation the memory algorithm `i` is at: its pass, and the step of the list at its cell. -/
def stands (i : Instr) (s : State) (descending : Bool) (ops : List CellStep) (o : CellStep) : Prop :=
  1 ≤ s.seq.phase ∧ (phases i)[s.seq.phase - 1]? = some (.pass descending ops) ∧ ops[s.seq.op]? = some o ∧
  s.seq.posk < s.region.length.toNat ∧ s.region.length.toNat ≤ 65536

/-- R232: the position after an operation: the next operation of the list, or the next cell. -/
def afterOp (descending : Bool) (ops : List CellStep) (s : State) : Seq :=
  if s.seq.op + 1 < ops.length then { s.seq with op := s.seq.op + 1, sample := 0 }
  else { s.seq with op := 0, sample := 0, posk := afterCell descending s.region.length.toNat s.seq.posk }

/-- `min(n, 2^32 - 1)`. -/
def sat (n : Nat) : Word32 := BitVec.ofNat 32 (min n 4294967295)

/-- R236: `Accumulate(e, x)`. -/
def counted (r : TestResult) (e x : Byte) (t : TestResult) : Prop :=
  if e = x then t = r
  else t.total = sat (r.total.toNat + 1) ∧
    ∀ i : Fin 8, t.bit.get i =
      if (e ^^^ x).getLsbD i.val = true then sat ((r.bit.get i).toNat + 1) else r.bit.get i

/-- R322: `AggFold()`. -/
def folded (a r t : TestResult) : Prop :=
  t.total = sat (a.total.toNat + r.total.toNat) ∧
  ∀ i : Fin 8, t.bit.get i = sat ((a.bit.get i).toNat + (r.bit.get i).toNat)

/-- R323: the faulty-bit mask of an aggregate. -/
def flags (a : TestResult) (m : BitVec 8) : Prop := ∀ i : Fin 8, m.getLsbD i.val = true ↔ a.bit.get i ≠ 0#32

/-- An event with the value a memory read returned put out of sight. -/
def shape : Event → Event
  | .memRead a _ => .memRead a 0#8
  | e => e

/-- R238, R256, R286: the memory operations of a list of phases over a region, in order. -/
def accesses (r : Region) (ps : List Phase) : List Event :=
  ps.flatMap fun p =>
    match p with
    | .pass d ops =>
      (cells d r.length.toNat).flatMap fun k =>
        ops.map fun o =>
          match o with
          | .write v => .memWrite (cellAddr r k) (v (cellAddr r k))
          | _ => .memRead (cellAddr r k) 0#8
    | .wait ms n => List.replicate n (.delayMs ms)

/-! ### The suite: R326 -/

/-- R326: the word of call `c`, the configuration values substituted. -/
def suiteWord (c : Cfg) (call : Nat) : Word64 :=
  match call with
  | 0 => 0x000000000000AA20#64
  | 1 => 0x0000000000015520#64
  | 2 => 0x000000000000AA21#64
  | 3 => 0x0000000000005521#64
  | 4 => 0x0000000000000022#64
  | 5 => 0x0000000000010022#64
  | 6 => 0x0000000000000023#64
  | 7 => 0x0000000000000024#64
  | 8 => 0x0000000000000025#64
  | 9 => 0x0000000000000026#64
  | 10 => 0x0000000000000027#64
  | 11 => 0x0000000000000028#64
  | 12 => 0x000000000000FF28#64
  | 13 => 0x0000000000005528#64
  | 14 => 0x000000000000002B#64
  | 15 => 0x000000000000FF2B#64
  | 16 => 0x000000000000AA2A#64 ||| (c.rdReads.setWidth 64 <<< 24)
  | 17 => 0x000000000000552A#64 ||| (c.rdReads.setWidth 64 <<< 24)
  | _ => 0x000000000000FF29#64 ||| (c.retRepeat.setWidth 64 <<< 24) ||| (c.retDelayMs.setWidth 64 <<< 32)

/-! ### Snapshots: R131, R182, R184 -/

/-- R31: the control signals in their order. -/
def signals : List Sig :=
  [.ras, .mux, .cas, .rd, .wr, .ioIn, .ioOut, .sysRes, .intAck, .int, .test, .wait]

/-- R182: the `k`-th of the fourteen reads of a snapshot (from 0), its bits put into the one being assembled. -/
def snapshotRead (k : Nat) (s : State) : State :=
  if k = 0 then
    { readAddr s with work := { s.work with rdv := s.answer, cur := s.answer.setWidth 64 } }
  else if k = 1 then
    { readData s with
      work := { s.work with
        rdv := (byteRead s).setWidth 16, cur := s.work.cur ||| ((byteRead s).setWidth 64 <<< 16) } }
  else
    { readCtl (signals.getD (k - 2) .wait) s with
      work := { s.work with
        rdv := if level s then 1#16 else 0#16
        cur := s.work.cur ||| ((if level s then 1#64 else 0#64) <<< (24 + (k - 2))) } }

/-- R182: the snapshot of the answers of fourteen reads. -/
def snapshot (a d : BitVec 16) (c : Fin 12 → BitVec 16) : Word64 :=
  a.setWidth 64 ||| (((d.setWidth 8).setWidth 64) <<< 16) |||
    (List.finRange 12).foldl (fun m i => m ||| ((if (c i).getLsbD 0 then 1#64 else 0#64) <<< (24 + i.val))) 0#64

/-- R184 `DRIVABLE`. -/
def drivablePositions : List Nat := List.range 31 ++ [33, 35]

/-- R187: the unexpected changes. -/
def unexpectedAt (cur baseline : Word64) (p : Nat) : Word64 := (cur ^^^ baseline) &&& ~~~(1#64 <<< p)

/-- R190: the crosstalk result with its flag. -/
def crosstalkResult (src dst : Word64) (s : State) : State :=
  { s with res := { s.res with
      xtSource := src, xtDest := dst, issues := withBit s.res.issues 3 (decide (src ≠ 0#64)) } }

end Sys2Proof.Spec

open Sys2Proof Sys2Proof.Machine

/-! ### Encoding -/

/-- R120 to R123: decoding the word of a well-formed command gives the command back, every operand at every
value its field admits. -/
def Obligations.DecodeEncodeRoundTrip : Prop := ∀ i : Instr, i.wellFormed = true → decode (encode i) = .ok i

/-- R121, R124, R126: a word that decodes is the one encoding of what it decodes to, and that is well-formed:
no two words mean one command. -/
def Obligations.DecodedWordIsItsEncoding : Prop :=
  ∀ (w : Word64) (i : Instr), decode w = .ok i → encode i = w ∧ i.wellFormed = true

/-- R135, R240 to R253, R302, R312, R326: words the spec writes out, and what they stand for. -/
def Obligations.SpecWordsDecode : Prop :=
  decode 0x000000000000AA20#64 = .ok (.repwrite 0xAA#8 false) ∧
  decode 0x0000000000015520#64 = .ok (.repwrite 0x55#8 true) ∧
  decode 0x0000000000010022#64 = .ok (.checker true) ∧
  decode 0x000000000000FF28#64 = .ok (.movinv 0xFF#8) ∧
  decode 0x000000640A00FF29#64 = .ok (.retention 0xFF#8 100 10) ∧
  decode 0x000000000500AA2A#64 = .ok (.readdestr 0xAA#8 5) ∧
  decode 0x000000000000FF2B#64 = .ok (.addruniq 0xFF#8) ∧
  decode 0x0000000000000001#64 = .ok .activate ∧
  decode 0x0000000000000012#64 = .ok .verifyCtrl ∧
  decode 0x0000000000000019#64 = .ok .crosstalk ∧
  decode 0x000000000000003F#64 = .ok .fullpass

/-- R124: a word with the opcode of a command and a 1 in a bit that command does not use is refused with
`ERR_BAD_PARAM`, and not executed with the extra bits ignored: nothing but `ERR` changes. -/
def Obligations.MustBeZeroBitRefused : Prop :=
  ∀ (i : Instr) (w : Word64) (s : State) (rest : List HostAct) (k : Nat),
    s.Idle → w.toNat % 256 = Spec.opcodeOf i → k < 64 → ¬ Spec.usesBit i k → w.getLsbD k = true →
    step { s with host := .write 0x00 w :: rest } = .next { s with host := rest, err := .badParam }

/-! ### The host port and acceptance -/

/-- R127, with R128, R129 and R359: a word written to `CMD` is handled by the first of the eight lines that
matches; a refusal changes `ERR` alone, an acceptance does what R129 lists in one step. That `SEQ` starts at
zeros is the model's numbering (log 9). -/
def Obligations.CommandWriteHandledByFirstLine : Prop :=
  ∀ (s : State) (w : Word64) (rest : List HostAct),
    step { s with host := .write 0x00 w :: rest } = .next (Spec.commandWritten w { s with host := rest })

/-- R59: the five lines that decide a host write, in their order. That a write carries 64 bits and stores the
low ones, at the register's width, is the model's (log 15). -/
def Obligations.HostWriteDecidedInOrder : Prop :=
  ∀ (s u : State) (rest : List HostAct) (index : Nat) (v : Word64), s.host = .write index v :: rest →
    u = { s with host := rest } →
    (s.mode = .halted → step s = .next { u with err := .halted }) ∧
    (s.Running → index = 0x03 → step s = .next { u with cancelReq := s.cancelReq || v.getLsbD 0 }) ∧
    (s.Running → index ≠ 0x03 → step s = .next { u with err := .busy }) ∧
    (s.Idle → ¬ Spec.writable index → step s = .next { u with err := .badReg }) ∧
    (s.Idle → index = 0x00 → decode v = .error .badOpcode → step s = .next { u with err := .badOpcode }) ∧
    (s.Idle → index = 0x00 → decode v = .error .badParam → step s = .next { u with err := .badParam }) ∧
    (∀ i, s.Idle → index = 0x00 → decode v = .ok i → step s = exec i u) ∧
    (s.Idle → index = 0x03 → step s = .next { u with cancelReq := s.cancelReq || v.getLsbD 0 }) ∧
    (s.Idle → index = 0x04 →
      step s = .next { u with region := { s.region with start := v.setWidth 16 } }) ∧
    (s.Idle → index = 0x05 →
      step s = .next { u with region := { s.region with length := v.setWidth 32 } }) ∧
    (∀ i : Fin 8, s.Idle → index = 0x08 + i.val →
      step s = .next { u with icRef := s.icRef.set i.val (v.setWidth 32) i.isLt }) ∧
    (s.Idle → index = 0x10 →
      step s = .next { u with cfg := { s.cfg with settleDelay := v.setWidth 16 } }) ∧
    (s.Idle → index = 0x11 →
      step s = .next { u with cfg := { s.cfg with confirmDelay := v.setWidth 16 } }) ∧
    (s.Idle → index = 0x12 →
      step s = .next { u with cfg := { s.cfg with confirmLoops := v.setWidth 16 } }) ∧
    (s.Idle → index = 0x13 → step s = .next { u with cfg := { s.cfg with stuckPct := v.setWidth 7 } }) ∧
    (s.Idle → index = 0x14 → step s = .next { u with cfg := { s.cfg with xtPct := v.setWidth 7 } }) ∧
    (s.Idle → index = 0x15 → step s = .next { u with cfg := { s.cfg with actPct := v.setWidth 7 } }) ∧
    (s.Idle → index = 0x16 →
      step s = .next { u with cfg := { s.cfg with retDelayMs := v.setWidth 16 } }) ∧
    (s.Idle → index = 0x17 → step s = .next { u with cfg := { s.cfg with retRepeat := v.setWidth 8 } }) ∧
    (s.Idle → index = 0x18 → step s = .next { u with cfg := { s.cfg with rdReads := v.setWidth 8 } })

/-- R60 to R62: a host read returns the value of the register the map gives the index, and 0 from an
unassigned index; a result register read while a command runs returns a draw, any value of the register's
width, which depends on nothing the engine holds. The engine does not change. The record of replies, and that
a draw is a free value counted in `draws`, are the model's (logs 4, 5). -/
def Obligations.HostReadReturnsTheRegister : Prop :=
  ∀ (s : State) (rest : List HostAct) (index : Nat), s.host = .read index :: rest →
    (∀ width value, (index, width, value) ∈ Spec.registers s → (s.Running → index < 0x20) →
      step s = .next { s with host := rest, replies := ⟨index, value⟩ :: s.replies }) ∧
    ((∀ e ∈ Spec.registers s, e.1 ≠ index) →
      step s = .next { s with host := rest, replies := ⟨index, 0#64⟩ :: s.replies }) ∧
    (∀ width value, (index, width, value) ∈ Spec.registers s → s.Running → 0x20 ≤ index →
      ∃ u : Word64, u.toNat = (Config.midRunRead s.draws).toNat % 2 ^ width ∧
        step s = .next { s with host := rest, draws := s.draws + 1, replies := ⟨index, u⟩ :: s.replies })

/-- R28: `STATUS`, bit by bit; with the numbers R357 gives the refusal codes and R351 the causes of the halt. -/
def Obligations.StatusPacking : Prop :=
  (∀ s : State,
    s.status.getLsbD 0 = s.busy ∧ s.status.getLsbD 1 = s.done ∧
    (s.status.getLsbD 2 = true ↔ s.mode = .halted) ∧ (s.status.getLsbD 3 = true ↔ s.mode = .owned) ∧
    s.status.getLsbD 4 = s.cancelled ∧ s.status.getLsbD 5 = s.cancelReq ∧
    s.status.extractLsb' 6 2 = 0#2 ∧ s.status.extractLsb' 8 4 = s.err.code ∧
    s.status.extractLsb' 12 2 = s.fatal.code ∧ s.status.extractLsb' 14 18 = 0#18 ∧
    (s.mode = .released ↔ s.status.getLsbD 2 = false ∧ s.status.getLsbD 3 = false)) ∧
  State.reset.status = 0x00000000#32 ∧
  [ErrCode.none, .busy, .halted, .badOpcode, .badParam, .badState, .badConfig, .badRegion, .badReg].map ErrCode.code
    = [0#4, 1#4, 2#4, 3#4, 4#4, 5#4, 6#4, 7#4, 8#4] ∧
  [FatalCause.none, .alreadyActive, .activateFailed, .deactivateFailed].map FatalCause.code
    = [0#2, 1#2, 2#2, 3#2]

/-- R390, R391: reset, from any state, in one step, puts every register and every pin at its reset value (the
working registers apart, which R390 leaves unspecified) and is recorded in the trace as an event of its own.
The state the model starts in is such a state too. -/
def Obligations.ResetFromAnyState : Prop :=
  Spec.IsReset State.reset ∧
  ∀ (s : State) (rest : List HostAct), s.host = .reset :: rest →
    ∃ t, step s = .next t ∧ Spec.IsReset t ∧ t.trace = .reset :: s.trace

/-- R392, and logs 11 and 12: reset touches nothing that is not the engine's: the environment, the trace so far,
and what the host has done and will do. That these are fields of State is the model's choice. -/
def Obligations.ResetKeepsTheEnvironment : Prop :=
  ∀ (s : State) (rest : List HostAct), s.host = .reset :: rest →
    ∃ t, step s = .next t ∧ t.trace.tail = s.trace ∧ t.host = rest ∧ t.answers = s.answers ∧
      t.answered = s.answered ∧ t.replies = s.replies ∧ t.draws = s.draws

/-- R352: in `HALTED` the engine has no step of its own, whatever command is asked of it. That this is a fault
of the machine is the model's way to say it (log 13). -/
def Obligations.HaltedEngineHasNoStep : Prop :=
  ∀ s : State, s.mode = .halted →
    (∀ i : Instr, exec i s = .fault .halted) ∧ (s.host = [] → step s = .fault .halted)

/-- R353, R354: in `HALTED` every write is refused with `ERR_HALTED` and changes `ERR` alone, every read
leaves the engine as it is, and only reset leaves the mode. The idle turn of a host is the model's (logs 5,
13). -/
def Obligations.HaltedOnlyResetLeaves : Prop :=
  ∀ (s : State) (rest : List HostAct), s.mode = .halted →
    (∀ index v, s.host = .write index v :: rest → step s = .next { s with host := rest, err := .halted }) ∧
    (∀ index, s.host = .read index :: rest →
      ∃ v, step s = .next { s with host := rest, replies := ⟨index, v⟩ :: s.replies }) ∧
    (s.host = .idle :: rest → step s = .next { s with host := rest }) ∧
    (s.host = .reset :: rest → ∃ t, step s = .next t ∧ t.mode = .released ∧ t.busy = false)

/-- R29, R127, R352, R358: a step runs the decoded command. The word the host writes to `CMD` of an idle engine
is decoded and `exec` is asked to run it; a running engine runs the command in `LASTCMD`; an idle engine
whose host is silent waits. The host's list of actions, the
idle turn and the waiting are the model's (logs 5, 6, 25). -/
def Obligations.StepRunsTheDecodedCommand : Prop :=
  (∀ (s : State) (i : Instr) (w : Word64) (rest : List HostAct), s.Idle → decode w = .ok i →
    step { s with host := .write 0x00 w :: rest } = exec i { s with host := rest }) ∧
  (∀ (s : State) (i : Instr), s.Running → decode s.lastcmd = .ok i →
    step { s with host := [] } = exec i { s with host := [] }) ∧
  (∀ (s : State) (i : Instr) (rest : List HostAct), s.Running → decode s.lastcmd = .ok i →
    step { s with host := .idle :: rest } = exec i { s with host := rest }) ∧
  (∀ (s : State) (nbits w : Nat) (i : Instr), s.Idle → decodeTableWord nbits w = some i →
    step (s.withFetchWord nbits w) = exec i s) ∧
  (∀ s : State, s.Idle → step { s with host := [] } = .next { s with host := [] })

/-! ### The housekeeping commands -/

/-- R337: `NOP` is accepted and completes, with no bus operation and no register written but those R129 and R130
write. -/
def Obligations.NopRun : Prop :=
  ∀ s : State, s.Idle →
    ∃ a q, exec .nop s = .next a ∧
      exec .nop a = .next { s with
        lastcmd := 0#64, busy := false, done := true, cancelled := false, cancelReq := false,
        err := .none, progress := 100#7, seq := q }

/-- R338: `CLEAR` is accepted and completes with every result register 0, and touches nothing else but the
registers R129 and R130 write. -/
def Obligations.ClearRun : Prop :=
  ∀ s : State, s.Idle →
    ∃ a t, exec .clear s = .next a ∧ exec .clear a = .next t ∧
      t = { s with
        res := t.res, lastcmd := 0x03#64, busy := false, done := true, cancelled := false,
        cancelReq := false, err := .none, progress := 100#7, seq := t.seq } ∧
      ∀ e ∈ Spec.registers t, 0x20 ≤ e.1 → e.2.2 = 0#64

/-! ### SAMPLE -/

/-- R182, R183: each of the fourteen reads of `SAMPLE`, and its end. How the pseudocode is cut into
steps and how `SEQ` numbers them is the model's (logs 7, 9, 10). -/
def Obligations.SampleSteps : Prop :=
  ∀ s : State, s.Running →
    (s.seq.op < 14 →
      exec .sample s = .next (Spec.atOp (s.seq.op + 1) (Spec.snapshotRead s.seq.op s))) ∧
    (14 ≤ s.seq.op →
      exec .sample s = .next (Spec.completed { s with res := { s.res with snap := s.work.cur } }))

/-- R182, R183: the whole run of `SAMPLE`, from its acceptance to its completion: whatever the fourteen reads
answer, `SNAP` is the packed snapshot of those answers, the trace has gained the fourteen reads in the
layout's order, nothing is driven, and no other register is written but those R129 and R130 write. -/
def Obligations.SampleRun : Prop :=
  ∀ (s : State) (a d : BitVec 16) (c : Fin 12 → BitVec 16) (rest : List (BitVec 16)),
    s.Idle → s.answers = a :: d :: (List.ofFn c ++ rest) →
    ∃ n t, Spec.execN .sample n s = .next t ∧
      t.res = { s.res with snap := Spec.snapshot a d c } ∧
      t.trace = ((List.finRange 12).map fun i =>
          Event.ctlRead (Spec.signals.getD i.val .wait) ((c i).getLsbD 0)).reverse
        ++ [.dataRead (d.setWidth 8), .addrRead a] ++ s.trace ∧
      t = Spec.completed { Spec.accepted 0x18#64 s with
        res := t.res, trace := t.trace, answers := rest, answered := s.answered + 14, seq := t.seq, work := t.work }

/-! ### ACTIVATE and DEACTIVATE -/

/-- R212: each step of `ACTIVATE`, in the order of its pseudocode. How the pseudocode is cut into
steps and how `SEQ` numbers them is the model's (logs 7, 9, 10). -/
def Obligations.ActivateSteps : Prop :=
  ∀ s : State, s.Running →
    (s.seq.op = 0 → exec .activate s = .next (Spec.atOp 1 (Spec.setDir .test .input s))) ∧
    (s.seq.op = 1 → exec .activate s = .next (Spec.atOp 2 (Spec.readCtl .test s))) ∧
    (s.seq.op = 2 → s.work.rdv.getLsbD 0 = true →
      exec .activate s = .next (Spec.halted .alreadyActive s)) ∧
    (s.seq.op = 2 → s.work.rdv.getLsbD 0 = false →
      exec .activate s = .next (Spec.atOp 3 (Spec.setDir .test .output s))) ∧
    (s.seq.op = 3 → exec .activate s = .next (Spec.atOp 4 (Spec.noHits (Spec.setOut .test true s)))) ∧
    (s.seq.op = 4 → Spec.moreSamples s → exec .activate s = .next (Spec.atOp 5 (Spec.waitConfirm s))) ∧
    (5 ≤ s.seq.op →
      exec .activate s = .next (Spec.atOp 4 (Spec.sampled (Spec.level s) (Spec.readCtl .test s)))) ∧
    (s.seq.op = 4 → ¬ Spec.moreSamples s → Spec.enoughHits s.cfg.actPct s →
      exec .activate s = .next (Spec.completed { s with mode := .owned })) ∧
    (s.seq.op = 4 → ¬ Spec.moreSamples s → ¬ Spec.enoughHits s.cfg.actPct s →
      exec .activate s = .next (Spec.halted .activateFailed s))

/-- R212, R213 (and R214, which follows from them): `ACTIVATE` presented to an engine that runs nothing. In
`OWNED` it is refused with `ERR_STATE`, with an illegal configuration with `ERR_BAD_CONFIG`. Else it is
accepted, and: if the first sample reads active, the engine halts after exactly two bus operations and has
not driven `TEST`; if not, it drives `TEST`, takes all `CFG_CONFIRM_LOOPS` samples, and owns the bus exactly
if the hits reach the threshold; if they do not, it halts with `TEST` still driven active. -/
def Obligations.ActivateRun : Prop :=
  ∀ (s : State) (first : BitVec 16) (l rest : List (BitVec 16)), s.busy = false →
    (s.mode = .owned → exec .activate s = .next { s with err := .badState }) ∧
    (s.mode = .released → ¬ Spec.groupOk .act s.cfg = true → exec .activate s = .next { s with err := .badConfig }) ∧
    (s.mode = .released → Spec.groupOk .act s.cfg = true → s.answers = first :: (l ++ rest) →
      l.length = s.cfg.confirmLoops.toNat → first.getLsbD 0 = true →
      ∃ n t, Spec.execN .activate n s = .next t ∧
        t = Spec.halted .alreadyActive { Spec.accepted 0x01#64 s with
          trace := [.ctlRead .test true, .ctlDir .test .input] ++ s.trace
          pins := { s.pins with ctlDir := s.pins.ctlDir.set 10 .input (by decide) }
          answers := l ++ rest, answered := s.answered + 1, seq := t.seq, work := t.work }) ∧
    (s.mode = .released → Spec.groupOk .act s.cfg = true → s.answers = first :: (l ++ rest) →
      l.length = s.cfg.confirmLoops.toNat → first.getLsbD 0 = false →
      ∃ n t u, Spec.execN .activate n s = .next t ∧
        u = { Spec.accepted 0x01#64 s with
          trace := (l.flatMap fun a =>
              [Event.delay s.cfg.confirmDelay.toNat, .ctlRead .test (a.getLsbD 0)]).reverse
            ++ [.ctlWrite .test true, .ctlDir .test .output, .ctlRead .test false, .ctlDir .test .input]
            ++ s.trace
          pins := { s.pins with
            ctlDir := s.pins.ctlDir.set 10 .output (by decide)
            ctlOut := s.pins.ctlOut.set 10 true (by decide) }
          answers := rest, answered := s.answered + 1 + l.length, seq := t.seq, work := t.work } ∧
        (s.cfg.actPct.toNat * l.length ≤ (l.countP fun a => a.getLsbD 0) * 100 →
          t = Spec.completed { u with mode := .owned }) ∧
        ((l.countP fun a => a.getLsbD 0) * 100 < s.cfg.actPct.toNat * l.length →
          t = Spec.halted .activateFailed u))

/-- R215: each step of `DEACTIVATE`, in the order of its pseudocode. How the pseudocode is cut into
steps and how `SEQ` numbers them is the model's (logs 7, 9, 10). -/
def Obligations.DeactivateSteps : Prop :=
  ∀ s : State, s.Running →
    (s.seq.op = 0 → exec .deactivate s = .next (Spec.atOp 1 (Spec.noHits (Spec.setOut .test false s)))) ∧
    (s.seq.op = 1 → Spec.moreSamples s → exec .deactivate s = .next (Spec.atOp 2 (Spec.waitConfirm s))) ∧
    (s.seq.op = 2 →
      exec .deactivate s = .next (Spec.atOp 1 (Spec.sampled (!Spec.level s) (Spec.readCtl .test s)))) ∧
    (s.seq.op = 1 → ¬ Spec.moreSamples s → Spec.enoughHits s.cfg.actPct s →
      exec .deactivate s = .next (Spec.atOp 3 (Spec.setDir .test .input s))) ∧
    (s.seq.op = 1 → ¬ Spec.moreSamples s → ¬ Spec.enoughHits s.cfg.actPct s →
      exec .deactivate s = .next (Spec.halted .deactivateFailed s)) ∧
    (3 ≤ s.seq.op → exec .deactivate s = .next (Spec.completed { s with mode := .released }))

/-- R213, R215 (and R216, which follows from them): `DEACTIVATE` presented to an engine that runs nothing. In
`RELEASED` it is refused with `ERR_STATE`, with an illegal configuration with `ERR_BAD_CONFIG`. Else it is
accepted, drives `TEST` inactive, takes all `CFG_CONFIRM_LOOPS` samples, and then, exactly if the inactive
samples reach the threshold, the pin is released and the bus given back; else the engine halts with `TEST`
left driven inactive. No result register changes. -/
def Obligations.DeactivateRun : Prop :=
  ∀ (s : State) (l rest : List (BitVec 16)), s.busy = false →
    (s.mode = .released → exec .deactivate s = .next { s with err := .badState }) ∧
    (s.mode = .owned → ¬ Spec.groupOk .act s.cfg = true → exec .deactivate s = .next { s with err := .badConfig }) ∧
    (s.mode = .owned → Spec.groupOk .act s.cfg = true → s.answers = l ++ rest →
      l.length = s.cfg.confirmLoops.toNat →
      ∃ n t u, Spec.execN .deactivate n s = .next t ∧
        u = { Spec.accepted 0x02#64 s with
          trace := (l.flatMap fun a =>
              [Event.delay s.cfg.confirmDelay.toNat, .ctlRead .test (a.getLsbD 0)]).reverse
            ++ [.ctlWrite .test false] ++ s.trace
          pins := { s.pins with ctlOut := s.pins.ctlOut.set 10 false (by decide) }
          answers := rest, answered := s.answered + l.length, seq := t.seq, work := t.work } ∧
        (s.cfg.actPct.toNat * l.length ≤ (l.countP fun a => !a.getLsbD 0) * 100 →
          t = Spec.completed { Spec.setDir .test .input u with mode := .released }) ∧
        ((l.countP fun a => !a.getLsbD 0) * 100 < s.cfg.actPct.toNat * l.length →
          t = Spec.halted .deactivateFailed u))

/-! ### The bus stuck-at tester -/

/-- R155: each step of `VERIFY_DATA`, phase by phase: the prologue; drive low; the confirmation of each
candidate in ascending order; drive high, on one sample; cleanup, latch first. `POSK` is the line's position.
How the pseudocode is cut into steps and how `SEQ` numbers them is the model's (logs 7, 9, 10). -/
def Obligations.VerifyDataSteps : Prop :=
  ∀ s : State, s.Running →
    (s.seq.phase = 0 →
      exec .verifyData s = .next (Spec.atPhase 1 16 { s with res := { s.res with
        frd := ⟨0#8, 0#8⟩, issues := Spec.withBit s.res.issues 0 false } })) ∧
    (s.seq.phase = 1 → s.seq.op = 0 →
      exec .verifyData s = .next (Spec.atOp 1 (Spec.setDataDir .output s))) ∧
    (s.seq.phase = 1 → s.seq.op = 1 →
      exec .verifyData s = .next (Spec.atOp 2 (Spec.setDataOut 0#8 s))) ∧
    (s.seq.phase = 1 → s.seq.op = 2 → exec .verifyData s = .next (Spec.atOp 3 (Spec.waitSettle s))) ∧
    (s.seq.phase = 1 → 3 ≤ s.seq.op →
      exec .verifyData s = .next (Spec.lineBegins 0 8 (Spec.atPhase 2 16 (Spec.progressed 25 { Spec.readData s with
        work := { s.work with rdv := (Spec.byteRead s).setWidth 16, cand := (Spec.byteRead s).setWidth 16, sh := 0#16 } })))) ∧
    (s.seq.phase = 2 → s.seq.op = 0 → 24 ≤ s.seq.posk →
      exec .verifyData s = .next (Spec.atPhase 3 16 (Spec.progressed 50 s))) ∧
    (∀ k < 8, s.seq.phase = 2 → s.seq.op = 0 → s.seq.posk = 16 + k → s.work.cand.getLsbD k = false →
      exec .verifyData s = .next (Spec.lineBegins (k + 1) 8 (Spec.atPos (s.seq.posk + 1) 0 s))) ∧
    (∀ k < 8, s.seq.phase = 2 → s.seq.op = 0 → s.seq.posk = 16 + k → s.work.cand.getLsbD k = true →
      Spec.moreSamples s → exec .verifyData s = .next (Spec.atOp 1 (Spec.waitConfirm s))) ∧
    (∀ k < 8, s.seq.phase = 2 → 1 ≤ s.seq.op → s.seq.posk = 16 + k →
      exec .verifyData s = .next (Spec.atOp 0 (Spec.sampled ((Spec.byteRead s).getLsbD k) (Spec.readData s)))) ∧
    (∀ k < 8, s.seq.phase = 2 → s.seq.op = 0 → s.seq.posk = 16 + k → s.work.cand.getLsbD k = true →
      ¬ Spec.moreSamples s → Spec.enoughHits s.cfg.stuckPct s →
      exec .verifyData s = .next (Spec.lineBegins (k + 1) 8 (Spec.atPos (s.seq.posk + 1) 0
        { s with work := { s.work with sh := s.work.sh ||| (1#16 <<< k) } }))) ∧
    (∀ k < 8, s.seq.phase = 2 → s.seq.op = 0 → s.seq.posk = 16 + k → s.work.cand.getLsbD k = true →
      ¬ Spec.moreSamples s → ¬ Spec.enoughHits s.cfg.stuckPct s →
      exec .verifyData s = .next (Spec.lineBegins (k + 1) 8 (Spec.atPos (s.seq.posk + 1) 0 s))) ∧
    (s.seq.phase = 3 → s.seq.op = 0 →
      exec .verifyData s = .next (Spec.atOp 1 (Spec.setDataOut 0xFF#8 s))) ∧
    (s.seq.phase = 3 → s.seq.op = 1 → exec .verifyData s = .next (Spec.atOp 2 (Spec.waitSettle s))) ∧
    (s.seq.phase = 3 → 2 ≤ s.seq.op →
      exec .verifyData s = .next (Spec.atPhase 4 16 (Spec.progressed 75 { Spec.readData s with
        work := { s.work with rdv := (Spec.byteRead s).setWidth 16, sl := (~~~Spec.byteRead s).setWidth 16 } }))) ∧
    (s.seq.phase = 4 → s.seq.op = 0 →
      exec .verifyData s = .next (Spec.atOp 1 (Spec.setDataOut 0#8 s))) ∧
    (s.seq.phase = 4 → s.seq.op = 1 →
      exec .verifyData s = .next (Spec.atOp 2 (Spec.setDataDir .input s))) ∧
    (s.seq.phase = 4 → 2 ≤ s.seq.op →
      exec .verifyData s = .next (Spec.completed { s with res := { s.res with
        frd := ⟨s.work.sh.setWidth 8, s.work.sl.setWidth 8⟩
        issues := Spec.withBit s.res.issues 0
          (decide (s.work.sh.setWidth 8 ||| s.work.sl.setWidth 8 ≠ 0#8)) } }))

/-- R158: each step of `VERIFY_ADDR`, phase by phase: the prologue; drive low; the confirmation of each
candidate in ascending order; drive high, on one sample; cleanup, latch first. `POSK` is the line's position.
How the pseudocode is cut into steps and how `SEQ` numbers them is the model's (logs 7, 9, 10). -/
def Obligations.VerifyAddrSteps : Prop :=
  ∀ s : State, s.Running →
    (s.seq.phase = 0 →
      exec .verifyAddr s = .next (Spec.atPhase 1 0 { s with res := { s.res with
        fra := ⟨0#16, 0#16⟩, issues := Spec.withBit s.res.issues 1 false } })) ∧
    (s.seq.phase = 1 → s.seq.op = 0 →
      exec .verifyAddr s = .next (Spec.atOp 1 (Spec.setAddrDir .output s))) ∧
    (s.seq.phase = 1 → s.seq.op = 1 →
      exec .verifyAddr s = .next (Spec.atOp 2 (Spec.setAddrOut 0#16 s))) ∧
    (s.seq.phase = 1 → s.seq.op = 2 → exec .verifyAddr s = .next (Spec.atOp 3 (Spec.waitSettle s))) ∧
    (s.seq.phase = 1 → 3 ≤ s.seq.op →
      exec .verifyAddr s = .next (Spec.lineBegins 0 16 (Spec.atPhase 2 0 (Spec.progressed 25 { Spec.readAddr s with
        work := { s.work with rdv := s.answer, cand := s.answer, sh := 0#16 } })))) ∧
    (s.seq.phase = 2 → s.seq.op = 0 → 16 ≤ s.seq.posk →
      exec .verifyAddr s = .next (Spec.atPhase 3 0 (Spec.progressed 50 s))) ∧
    (∀ k < 16, s.seq.phase = 2 → s.seq.op = 0 → s.seq.posk = k → s.work.cand.getLsbD k = false →
      exec .verifyAddr s = .next (Spec.lineBegins (k + 1) 16 (Spec.atPos (s.seq.posk + 1) 0 s))) ∧
    (∀ k < 16, s.seq.phase = 2 → s.seq.op = 0 → s.seq.posk = k → s.work.cand.getLsbD k = true →
      Spec.moreSamples s → exec .verifyAddr s = .next (Spec.atOp 1 (Spec.waitConfirm s))) ∧
    (∀ k < 16, s.seq.phase = 2 → 1 ≤ s.seq.op → s.seq.posk = k →
      exec .verifyAddr s = .next (Spec.atOp 0 (Spec.sampled ((s.answer).getLsbD k) (Spec.readAddr s)))) ∧
    (∀ k < 16, s.seq.phase = 2 → s.seq.op = 0 → s.seq.posk = k → s.work.cand.getLsbD k = true →
      ¬ Spec.moreSamples s → Spec.enoughHits s.cfg.stuckPct s →
      exec .verifyAddr s = .next (Spec.lineBegins (k + 1) 16 (Spec.atPos (s.seq.posk + 1) 0
        { s with work := { s.work with sh := s.work.sh ||| (1#16 <<< k) } }))) ∧
    (∀ k < 16, s.seq.phase = 2 → s.seq.op = 0 → s.seq.posk = k → s.work.cand.getLsbD k = true →
      ¬ Spec.moreSamples s → ¬ Spec.enoughHits s.cfg.stuckPct s →
      exec .verifyAddr s = .next (Spec.lineBegins (k + 1) 16 (Spec.atPos (s.seq.posk + 1) 0 s))) ∧
    (s.seq.phase = 3 → s.seq.op = 0 →
      exec .verifyAddr s = .next (Spec.atOp 1 (Spec.setAddrOut 0xFFFF#16 s))) ∧
    (s.seq.phase = 3 → s.seq.op = 1 → exec .verifyAddr s = .next (Spec.atOp 2 (Spec.waitSettle s))) ∧
    (s.seq.phase = 3 → 2 ≤ s.seq.op →
      exec .verifyAddr s = .next (Spec.atPhase 4 0 (Spec.progressed 75 { Spec.readAddr s with
        work := { s.work with rdv := s.answer, sl := ~~~s.answer } }))) ∧
    (s.seq.phase = 4 → s.seq.op = 0 →
      exec .verifyAddr s = .next (Spec.atOp 1 (Spec.setAddrOut 0#16 s))) ∧
    (s.seq.phase = 4 → s.seq.op = 1 →
      exec .verifyAddr s = .next (Spec.atOp 2 (Spec.setAddrDir .input s))) ∧
    (s.seq.phase = 4 → 2 ≤ s.seq.op →
      exec .verifyAddr s = .next (Spec.completed { s with res := { s.res with
        fra := ⟨s.work.sh, s.work.sl⟩
        issues := Spec.withBit s.res.issues 1
          (decide (s.work.sh ||| s.work.sl ≠ 0#16)) } }))

/-- R161 to R164: each step of `VERIFY_CTRL`, phase by phase. A signal `g` of class G has index 0 to 6 and
stands at position `24 + g`; each list is walked in the order of R161. How the pseudocode is cut into steps
and how `SEQ` numbers them is the model's (logs 7, 9, 10). That an active sample of `SYS_RES` or `INT_ACK` is
recorded, in bits 7 and 8 of the stuck-low mask, is the model's choice (log 19). -/
def Obligations.VerifyCtrlSteps : Prop :=
  ∀ s : State, s.Running →
    (s.seq.phase = 0 →
      exec .verifyCtrl s = .next (Spec.atPhase 1 24 { s with
        res := { s.res with frc := ⟨0#12, 0#12⟩, issues := Spec.withBit s.res.issues 2 false }
        work := { s.work with cand := 0#16, sh := 0#16, sl := 0#16 } })) ∧
    -- phase 1, drive low
    (∀ g : Sig, g.idx.val ≤ 6 → s.seq.posk = 24 + g.idx.val → s.seq.phase = 1 → s.seq.op = 0 →
      exec .verifyCtrl s = .next ((if s.seq.posk < 30 then Spec.atPos (s.seq.posk + 1) 0 else Spec.atPos 24 1)
        (Spec.setDir g .output s))) ∧
    (∀ g : Sig, g.idx.val ≤ 6 → s.seq.posk = 24 + g.idx.val → s.seq.phase = 1 → s.seq.op = 1 →
      exec .verifyCtrl s = .next ((if s.seq.posk < 30 then Spec.atPos (s.seq.posk + 1) 1 else Spec.atPos 24 2)
        (Spec.setOut g true s))) ∧
    (s.seq.phase = 1 → s.seq.op = 2 → exec .verifyCtrl s = .next (Spec.atPos 24 3 (Spec.waitSettle s))) ∧
    (∀ g : Sig, g.idx.val ≤ 5 → s.seq.posk = 24 + g.idx.val → s.seq.phase = 1 → 3 ≤ s.seq.op →
      exec .verifyCtrl s = .next (Spec.atPos (s.seq.posk + 1) 3 { Spec.readCtl g s with
        work := { s.work with
          rdv := if Spec.level s then 1#16 else 0#16
          cand := if Spec.level s then s.work.cand else s.work.cand ||| (1#16 <<< g.idx.val) } })) ∧
    (s.seq.posk = 30 → s.seq.phase = 1 → 3 ≤ s.seq.op →
      exec .verifyCtrl s = .next (Spec.lineBegins 0 7 (Spec.atPhase 2 24 (Spec.progressed 25 { Spec.readCtl .ioOut s with
        work := { s.work with
          rdv := if Spec.level s then 1#16 else 0#16
          cand := if Spec.level s then s.work.cand else s.work.cand ||| (1#16 <<< 6) } })))) ∧
    -- phase 2, confirmation
    (s.seq.phase = 2 → s.seq.op = 0 → 31 ≤ s.seq.posk →
      exec .verifyCtrl s = .next (Spec.atPhase 3 24 (Spec.progressed 50 s))) ∧
    (∀ g : Sig, g.idx.val ≤ 6 → s.seq.posk = 24 + g.idx.val → s.seq.phase = 2 → s.seq.op = 0 →
      s.work.cand.getLsbD g.idx.val = false →
      exec .verifyCtrl s = .next (Spec.lineBegins (g.idx.val + 1) 7 (Spec.atPos (s.seq.posk + 1) 0 s))) ∧
    (∀ g : Sig, g.idx.val ≤ 6 → s.seq.posk = 24 + g.idx.val → s.seq.phase = 2 → s.seq.op = 0 →
      s.work.cand.getLsbD g.idx.val = true → Spec.moreSamples s →
      exec .verifyCtrl s = .next (Spec.atOp 1 (Spec.waitConfirm s))) ∧
    (∀ g : Sig, g.idx.val ≤ 6 → s.seq.posk = 24 + g.idx.val → s.seq.phase = 2 → 1 ≤ s.seq.op →
      exec .verifyCtrl s = .next (Spec.atOp 0 (Spec.sampled (!Spec.level s) (Spec.readCtl g s)))) ∧
    (∀ g : Sig, g.idx.val ≤ 6 → s.seq.posk = 24 + g.idx.val → s.seq.phase = 2 → s.seq.op = 0 →
      s.work.cand.getLsbD g.idx.val = true → ¬ Spec.moreSamples s → Spec.enoughHits s.cfg.stuckPct s →
      exec .verifyCtrl s = .next (Spec.lineBegins (g.idx.val + 1) 7 (Spec.atPos (s.seq.posk + 1) 0
        { s with work := { s.work with sh := s.work.sh ||| (1#16 <<< g.idx.val) } }))) ∧
    (∀ g : Sig, g.idx.val ≤ 6 → s.seq.posk = 24 + g.idx.val → s.seq.phase = 2 → s.seq.op = 0 →
      s.work.cand.getLsbD g.idx.val = true → ¬ Spec.moreSamples s → ¬ Spec.enoughHits s.cfg.stuckPct s →
      exec .verifyCtrl s = .next (Spec.lineBegins (g.idx.val + 1) 7 (Spec.atPos (s.seq.posk + 1) 0 s))) ∧
    -- phase 3, drive high
    (∀ g : Sig, g.idx.val ≤ 6 → s.seq.posk = 24 + g.idx.val → s.seq.phase = 3 → s.seq.op = 0 →
      exec .verifyCtrl s = .next ((if s.seq.posk < 30 then Spec.atPos (s.seq.posk + 1) 0 else Spec.atPos 24 1)
        (Spec.setOut g false s))) ∧
    (s.seq.phase = 3 → s.seq.op = 1 → exec .verifyCtrl s = .next (Spec.atPos 24 2 (Spec.waitSettle s))) ∧
    (∀ g : Sig, g.idx.val ≤ 6 → s.seq.posk = 24 + g.idx.val → s.seq.phase = 3 → s.seq.op = 2 →
      exec .verifyCtrl s = .next ((if s.seq.posk < 30 then Spec.atPos (s.seq.posk + 1) 2 else Spec.atPos 33 3)
        { Spec.readCtl g s with
          work := { s.work with
            rdv := if Spec.level s then 1#16 else 0#16
            sl := if Spec.level s then s.work.sl ||| (1#16 <<< g.idx.val) else s.work.sl } })) ∧
    -- phase 3, the write-only signals
    (∀ g : Sig, g = .int ∨ g = .wait → s.seq.posk = 24 + g.idx.val → s.seq.phase = 3 → s.seq.op = 3 →
      exec .verifyCtrl s = .next (Spec.atOp 4 (Spec.setDir g .input s))) ∧
    (s.seq.phase = 3 → s.seq.op = 4 → exec .verifyCtrl s = .next (Spec.atOp 5 (Spec.waitSettle s))) ∧
    (∀ g : Sig, g = .int ∨ g = .wait → s.seq.posk = 24 + g.idx.val → s.seq.phase = 3 → s.seq.op = 5 →
      exec .verifyCtrl s = .next (Spec.atOp 6 { Spec.readCtl g s with
        work := { s.work with
          rdv := if Spec.level s then 1#16 else 0#16
          sl := if Spec.level s then s.work.sl ||| (1#16 <<< g.idx.val) else s.work.sl } })) ∧
    (∀ g : Sig, g = .int ∨ g = .wait → s.seq.posk = 24 + g.idx.val → s.seq.phase = 3 → s.seq.op = 6 →
      exec .verifyCtrl s = .next ((if g = .int then Spec.atPos 35 3 else Spec.atPos 31 7)
        (Spec.setDir g .output s))) ∧
    -- phase 3, the read-only signals
    (s.seq.posk = 31 → s.seq.phase = 3 → 7 ≤ s.seq.op →
      exec .verifyCtrl s = .next (Spec.atPos 32 7 { Spec.readCtl .sysRes s with
        work := { s.work with
          rdv := if Spec.level s then 1#16 else 0#16
          sl := if Spec.level s then s.work.sl ||| (1#16 <<< 7) else s.work.sl } })) ∧
    (s.seq.posk = 32 → s.seq.phase = 3 → 7 ≤ s.seq.op →
      exec .verifyCtrl s = .next (Spec.atPhase 4 24 (Spec.progressed 75 { Spec.readCtl .intAck s with
        work := { s.work with
          rdv := if Spec.level s then 1#16 else 0#16
          sl := if Spec.level s then s.work.sl ||| (1#16 <<< 8) else s.work.sl } }))) ∧
    -- phase 4, cleanup
    (∀ g : Sig, g.idx.val ≤ 6 → s.seq.posk = 24 + g.idx.val → s.seq.phase = 4 → s.seq.op = 0 →
      exec .verifyCtrl s = .next ((if s.seq.posk < 30 then Spec.atPos (s.seq.posk + 1) 0 else Spec.atPos 24 1)
        (Spec.setDir g .input s))) ∧
    (s.seq.phase = 4 → 1 ≤ s.seq.op →
      exec .verifyCtrl s = .next (Spec.completed { s with res := { s.res with
        frc := ⟨s.work.sh.setWidth 12, s.work.sl.setWidth 12⟩
        issues := Spec.withBit s.res.issues 2
          (decide (s.work.sh.setWidth 12 ||| s.work.sl.setWidth 12 ≠ 0#12)) } }))

/-! ### CROSSTALK -/

/-- R185, R186, R190, R192: the steps of `CROSSTALK` that clear and take the baseline, drive and release a
position, move to the next one, stop at a cancel point and end. How the pseudocode is cut into steps and how
`SEQ` numbers them is the model's (logs 7, 8, 9, 10). -/
def Obligations.CrosstalkDriveSteps : Prop :=
  ∀ s : State, s.Running →
    -- the prologue and the baseline
    (s.seq.phase = 0 → s.seq.op = 0 →
      exec .crosstalk s = .next (Spec.atOp 1 (Spec.crosstalkResult 0#64 0#64 s))) ∧
    (s.seq.phase = 0 → 1 ≤ s.seq.op → s.seq.op ≤ 14 →
      exec .crosstalk s = .next (Spec.atOp (s.seq.op + 1) (Spec.snapshotRead (s.seq.op - 1) s))) ∧
    (s.seq.phase = 0 → 15 ≤ s.seq.op →
      exec .crosstalk s = .next (Spec.atPhase 1 0 { s with
        res := { s.res with xtBaseline := s.work.cur }, work := { s.work with src := 0#64, dst := 0#64 } })) ∧
    -- the cancel point
    (1 ≤ s.seq.phase → s.seq.op = 0 → s.cancelReq = true →
      exec .crosstalk s = .next (Spec.completedCancelled (Spec.crosstalkResult s.work.src s.work.dst s))) ∧
    -- Drive
    (∀ p < 16, s.seq.posk = p → 1 ≤ s.seq.phase → s.seq.op = 0 → s.cancelReq = false →
      exec .crosstalk s = .next (Spec.atOp 1 (Spec.setAddrDir .output s))) ∧
    (∀ p < 16, s.seq.posk = p → 1 ≤ s.seq.phase → s.seq.op = 1 →
      exec .crosstalk s = .next (Spec.atOp 2 (Spec.setAddrOut (1#16 <<< p) s))) ∧
    (∀ k < 8, s.seq.posk = 16 + k → 1 ≤ s.seq.phase → s.seq.op = 0 → s.cancelReq = false →
      exec .crosstalk s = .next (Spec.atOp 1 (Spec.setDataDir .output s))) ∧
    (∀ k < 8, s.seq.posk = 16 + k → 1 ≤ s.seq.phase → s.seq.op = 1 →
      exec .crosstalk s = .next (Spec.atOp 2 (Spec.setDataOut (1#8 <<< k) s))) ∧
    (∀ g : Sig, g.idx.val ≤ 6 → s.seq.posk = 24 + g.idx.val → 1 ≤ s.seq.phase → s.seq.op = 0 →
      s.cancelReq = false → exec .crosstalk s = .next (Spec.atOp 1 (Spec.setDir g .output s))) ∧
    (∀ g : Sig, g.idx.val ≤ 6 → s.seq.posk = 24 + g.idx.val → 1 ≤ s.seq.phase → s.seq.op = 1 →
      exec .crosstalk s = .next (Spec.atOp 2 (Spec.setOut g true s))) ∧
    (∀ g : Sig, g = .int ∨ g = .wait → s.seq.posk = 24 + g.idx.val → 1 ≤ s.seq.phase → s.seq.op = 0 →
      s.cancelReq = false → exec .crosstalk s = .next (Spec.atOp 2 (Spec.setOut g true s))) ∧
    (1 ≤ s.seq.phase → s.seq.op = 2 → exec .crosstalk s = .next (Spec.atOp 3 (Spec.waitSettle s))) ∧
    -- Release
    (∀ p < 16, s.seq.posk = p → 1 ≤ s.seq.phase → s.seq.op = 33 →
      exec .crosstalk s = .next (Spec.atOp 34 (Spec.setAddrOut 0#16 s))) ∧
    (∀ p < 16, s.seq.posk = p → 1 ≤ s.seq.phase → s.seq.op = 34 →
      exec .crosstalk s = .next (Spec.atOp 35 (Spec.setAddrDir .input s))) ∧
    (∀ k < 8, s.seq.posk = 16 + k → 1 ≤ s.seq.phase → s.seq.op = 33 →
      exec .crosstalk s = .next (Spec.atOp 34 (Spec.setDataOut 0#8 s))) ∧
    (∀ k < 8, s.seq.posk = 16 + k → 1 ≤ s.seq.phase → s.seq.op = 34 →
      exec .crosstalk s = .next (Spec.atOp 35 (Spec.setDataDir .input s))) ∧
    (∀ g : Sig, g.idx.val ≤ 6 → s.seq.posk = 24 + g.idx.val → 1 ≤ s.seq.phase → s.seq.op = 33 →
      exec .crosstalk s = .next (Spec.atOp 34 (Spec.setOut g false s))) ∧
    (∀ g : Sig, g.idx.val ≤ 6 → s.seq.posk = 24 + g.idx.val → 1 ≤ s.seq.phase → s.seq.op = 34 →
      exec .crosstalk s = .next (Spec.atOp 35 (Spec.setDir g .input s))) ∧
    (∀ g : Sig, g = .int ∨ g = .wait → s.seq.posk = 24 + g.idx.val → 1 ≤ s.seq.phase → s.seq.op = 33 →
      exec .crosstalk s = .next (Spec.atOp 35 (Spec.setOut g false s))) ∧
    -- the next position, or the end
    (∀ p, Spec.drivablePositions[s.seq.phase]? = some p → 1 ≤ s.seq.phase → 35 ≤ s.seq.op →
      exec .crosstalk s = .next (Spec.atPhase (s.seq.phase + 1) p
        (Spec.progressed (100 * s.seq.phase / 33) s))) ∧
    (s.seq.phase = 33 → 35 ≤ s.seq.op →
      exec .crosstalk s = .next (Spec.completed (Spec.crosstalkResult s.work.src s.work.dst s)))

/-- R186 to R189: the steps of `CROSSTALK` that take a snapshot with a position driven, decide whether to
confirm, take the confirmation samples and record a finding. How the pseudocode is cut into steps and how
`SEQ` numbers them is the model's (logs 7, 9, 10). -/
def Obligations.CrosstalkSampleSteps : Prop :=
  ∀ s : State, s.Running → 1 ≤ s.seq.phase →
    (3 ≤ s.seq.op → s.seq.op ≤ 16 →
      exec .crosstalk s = .next (Spec.atOp (s.seq.op + 1) (Spec.snapshotRead (s.seq.op - 3) s))) ∧
    (s.seq.op = 17 → Spec.unexpectedAt s.work.cur s.res.xtBaseline s.seq.posk = 0#64 →
      exec .crosstalk s = .next (Spec.atOp 33 { s with work := { s.work with u0 := 0#64 } })) ∧
    (s.seq.op = 17 → Spec.unexpectedAt s.work.cur s.res.xtBaseline s.seq.posk ≠ 0#64 →
      exec .crosstalk s = .next (Spec.atOp 18 (Spec.noHits { s with work := { s.work with
        u0 := Spec.unexpectedAt s.work.cur s.res.xtBaseline s.seq.posk } }))) ∧
    (s.seq.op = 18 → Spec.moreSamples s → exec .crosstalk s = .next (Spec.atOp 19 (Spec.waitConfirm s))) ∧
    (19 ≤ s.seq.op → s.seq.op ≤ 31 →
      exec .crosstalk s = .next (Spec.atOp (s.seq.op + 1) (Spec.snapshotRead (s.seq.op - 19) s))) ∧
    (s.seq.op = 32 →
      exec .crosstalk s = .next (Spec.atOp 18 (Spec.sampled
        (decide (Spec.unexpectedAt (Spec.snapshotRead 13 s).work.cur s.res.xtBaseline s.seq.posk ≠ 0#64))
        (Spec.snapshotRead 13 s)))) ∧
    (s.seq.op = 18 → ¬ Spec.moreSamples s → Spec.enoughHits s.cfg.xtPct s →
      exec .crosstalk s = .next (Spec.atOp 33 { s with work := { s.work with
        src := s.work.src ||| (1#64 <<< s.seq.posk), dst := s.work.dst ||| s.work.u0 } })) ∧
    (s.seq.op = 18 → ¬ Spec.moreSamples s → ¬ Spec.enoughHits s.cfg.xtPct s →
      exec .crosstalk s = .next (Spec.atOp 33 s))

/-! ### The memory algorithms -/

/-- R235: the prologue of every memory algorithm: `TR` cleared, then the first phase of its table begins. How
the pseudocode is cut into steps and how `SEQ` numbers them is the model's (logs 7, 9, 10). That `PAT` is
loaded here is the model's choice (log 20). -/
def Obligations.MemoryPrologue : Prop :=
  ∀ (i : Instr) (s : State), s.Running → Spec.phases i ≠ [] → s.seq.phase = 0 →
    ∃ t, exec i s = .next t ∧
      t.res.tr.total = 0#32 ∧ (∀ b : Fin 8, t.res.tr.bit.get b = 0#32) ∧
      t = { s with
        res := { s.res with tr := t.res.tr }
        work := { s.work with pat := Spec.patOf i s }
        seq := { s.seq with
          phase := 1, op := 0, sample := 0
          posk := Spec.firstCell (Spec.phases i)[0]? s.region.length.toNat } }

/-- R232, R233: a write of a memory algorithm: `MemWrite(A, val(A))` at the address of its cell, and then the
next operation of the list, or the next cell (R94). No result, no pin and no other register changes. How the
pseudocode is cut into steps and how `SEQ` numbers them is the model's (logs 7, 9, 10). That `PAT` and `BITIX`
are loaded here is the model's choice (log 20). -/
def Obligations.MemoryWriteStep : Prop :=
  ∀ (i : Instr) (s : State) (d : Bool) (ops : List Spec.CellStep) (v : Addr → Byte),
    s.Running → Spec.stands i s d ops (.write v) →
    exec i s = .next { s with
      trace := .memWrite (Spec.cellAddr s.region s.seq.posk) (v (Spec.cellAddr s.region s.seq.posk)) :: s.trace
      work := { s.work with
        a := Spec.cellAddr s.region s.seq.posk, pat := Spec.patOf i s, bitix := Spec.bitixOf i s }
      seq := Spec.afterOp d ops s }

/-- R232, R233, R236: a compared read of a memory algorithm: one `MemRead` at the address of its cell,
whatever it answers accumulated against the expected byte, and then the next operation or cell, mismatch or
not. How the pseudocode is cut into steps and how `SEQ` numbers them is the model's (logs 7, 9, 10). That
`PAT` and `BITIX` are loaded here is the model's choice (log 20). -/
def Obligations.MemoryCompareStep : Prop :=
  ∀ (i : Instr) (s : State) (d : Bool) (ops : List Spec.CellStep) (v : Addr → Byte),
    s.Running → Spec.stands i s d ops (.compare v) →
    ∃ t, exec i s = .next t ∧
      Spec.counted s.res.tr (v (Spec.cellAddr s.region s.seq.posk)) (Spec.byteRead s) t.res.tr ∧
      t = { s with
        res := { s.res with tr := t.res.tr }
        trace := .memRead (Spec.cellAddr s.region s.seq.posk) (Spec.byteRead s) :: s.trace
        answers := s.answers.tail
        answered := s.answered + 1
        work := { s.work with
          a := Spec.cellAddr s.region s.seq.posk, exp := v (Spec.cellAddr s.region s.seq.posk)
          rdv := (Spec.byteRead s).setWidth 16, pat := Spec.patOf i s, bitix := Spec.bitixOf i s }
        seq := Spec.afterOp d ops s }

/-- R233, R243, R244: a discarded read: one `MemRead`, its value compared with nothing and counted nowhere.
How the pseudocode is cut into steps and how `SEQ` numbers them is the model's (logs 7, 9, 10). -/
def Obligations.MemoryDiscardStep : Prop :=
  ∀ (i : Instr) (s : State) (d : Bool) (ops : List Spec.CellStep),
    s.Running → Spec.stands i s d ops .discard →
    exec i s = .next { s with
      trace := .memRead (Spec.cellAddr s.region s.seq.posk) (Spec.byteRead s) :: s.trace
      answers := s.answers.tail
      answered := s.answered + 1
      work := { s.work with
        a := Spec.cellAddr s.region s.seq.posk, rdv := (Spec.byteRead s).setWidth 16 }
      seq := Spec.afterOp d ops s }

/-- R249, R250: the repeated read with early stop: `RDCNT` is 0 where the reads of a cell begin, and every
read is counted in it; after a read that matches the cell is read again, `SAMPLE` (R50) moving on; the first
that does not match is accumulated and ends the reads of that cell; after `n` reads the pass goes on with no
further read. How the pseudocode is cut into steps and how `SEQ` numbers them is the model's (logs 7, 9, 10).
That `PAT` is loaded here is the model's choice (log 20); that the reads of a cell begin where `SAMPLE` is 0
is its reading (log 22). -/
def Obligations.ReadUntilMismatchStep : Prop :=
  ∀ (i : Instr) (s : State) (d : Bool) (ops : List Spec.CellStep) (v : Addr → Byte) (n : Nat),
    s.Running → Spec.stands i s d ops (.repeatStop v n) →
    (n ≤ (Spec.readsDone s).toNat →
      exec i s = .next { s with
        work := { s.work with a := Spec.cellAddr s.region s.seq.posk, rdcnt := Spec.readsDone s }
        seq := Spec.afterOp d ops s }) ∧
    ((Spec.readsDone s).toNat < n →
      ∃ t, exec i s = .next t ∧
        Spec.counted s.res.tr (v (Spec.cellAddr s.region s.seq.posk)) (Spec.byteRead s) t.res.tr ∧
        t = { s with
          res := { s.res with tr := t.res.tr }
          trace := .memRead (Spec.cellAddr s.region s.seq.posk) (Spec.byteRead s) :: s.trace
          answers := s.answers.tail
          answered := s.answered + 1
          work := { s.work with
            a := Spec.cellAddr s.region s.seq.posk, exp := v (Spec.cellAddr s.region s.seq.posk)
            rdv := (Spec.byteRead s).setWidth 16, pat := Spec.patOf i s, rdcnt := Spec.readsDone s + 1#8 }
          seq := if Spec.byteRead s = v (Spec.cellAddr s.region s.seq.posk) then
              { s.seq with sample := s.seq.sample + 1 }
            else Spec.afterOp d ops s })

/-- R311, R312: the wait of RETENTION: one `DelayMs(D)` while `RDCNT < N`, no memory primitive; and when the
`N` are done, `PROGRESS` 66 and the verify pass, `RDCNT` left as it is. How the pseudocode is cut into steps
and how `SEQ` numbers them is the model's (logs 7, 9, 10). -/
def Obligations.RetentionWait : Prop :=
  ∀ (p : Byte) (d n : Nat) (s : State), s.Running → s.seq.phase = 2 →
    (s.work.rdcnt.toNat < n →
      exec (.retention p d n) s = .next (Spec.issue (.delayMs d)
        { s with work := { s.work with rdcnt := s.work.rdcnt + 1#8 } })) ∧
    (n ≤ s.work.rdcnt.toNat →
      exec (.retention p d n) s = .next { s with
        progress := 66#7
        seq := { s.seq with
          phase := 3, op := 0, sample := 0
          posk := if s.region.length.toNat = 0 then 65536 else 0 } })

/-- R27, R130, R237: the end of a pass: `PROGRESS` is the floor of 100 j / n, and the next phase of the table
begins at its first cell, or the wait with `RDCNT` 0; after the last one the command completes. How the
pseudocode is cut into steps and how `SEQ` numbers them is the model's (logs 7, 9, 10). -/
def Obligations.MemoryPassEnd : Prop :=
  ∀ (i : Instr) (s : State) (j : Nat) (d : Bool) (ops : List Spec.CellStep),
    s.Running → s.seq.phase = j + 1 → (Spec.phases i)[j]? = some (.pass d ops) → s.seq.posk = 65536 →
    (j + 1 < (Spec.phases i).length →
      exec i s = .next { s with
        progress := BitVec.ofNat 7 (100 * (j + 1) / (Spec.phases i).length)
        work := { s.work with rdcnt := Spec.rdcntAt (Spec.phases i)[j + 1]? s }
        seq := { s.seq with
          phase := j + 2, op := 0, sample := 0
          posk := Spec.firstCell (Spec.phases i)[j + 1]? s.region.length.toNat } }) ∧
    (j + 1 = (Spec.phases i).length → exec i s = .next (Spec.completed s))

/-- R235, R237, R238, R256, R275, R286, R311, R329: the whole run of every memory algorithm but `READDESTR`,
from its acceptance: on any legal region and against any environment, it completes, and it has issued exactly
the operations of its table, pass after pass, cell after cell, and no other. -/
def Obligations.MemoryRunAccesses : Prop :=
  ∀ (i : Instr) (s : State), s.busy = false → s.mode = .owned → i.wellFormed = true → Spec.phases i ≠ [] →
    (∀ p n, i ≠ .readdestr p n) → s.region.length.toNat ≤ 65536 →
    ∃ k t, Spec.execN i k s = .next t ∧
      t = Spec.completed { Spec.accepted (encode i) s with
        res := { s.res with tr := t.res.tr }, trace := t.trace, answers := t.answers, answered := t.answered
        seq := t.seq, work := t.work } ∧
      t.trace.map Spec.shape = (Spec.accesses s.region (Spec.phases i)).reverse ++ s.trace.map Spec.shape

/-- R274: if every `MemRead` returns the byte of the latest `MemWrite` to its address, every memory algorithm
ends with `TR_TOTAL` and every `TR_BIT` 0, for every region. That `SEQ` starts at zeros is the model's
numbering (log 9). -/
def Obligations.FaithfulMemoryFindsNothing : Prop :=
  ∀ (i : Instr) (s : State) (other : Byte), s.Runs i → Spec.phases i ≠ [] → s.seq = Spec.seqZero →
    s.region.length.toNat ≤ 65536 →
    ∃ n t, runFaithful other n s = .next t ∧ t.busy = false ∧ t.done = true ∧
      t.res.tr.total = 0#32 ∧ ∀ b : Fin 8, t.res.tr.bit.get b = 0#32

/-! ### SUITE and FULLPASS -/

/-- R322, R323, R325 to R327, R335, R336: the steps of `SUITE`. Its prologue; the cancel point before a call;
and a step of call `c`, which is the step the stand-alone command of row `c` of R326 takes, with `PROGRESS`
left alone, and, when that command completes, the call logged, folded and counted in `PROGRESS`. How the
pseudocode is cut into steps and how `SEQ` numbers them is the model's (logs 7, 8, 9, 10). -/
def Obligations.SuiteSteps : Prop :=
  ∀ s : State, s.Running →
    (s.seq.phase = 0 → s.seq.op = 0 →
      ∃ t, exec .suite s = .next t ∧
        t = { s with
          res := { s.res with
            tr := t.res.tr, agg := t.res.agg, aggFaultyMask := 0#8, slogCount := 0#5, slog := t.res.slog }
          seq := { s.seq with call := 0, phase := 0, op := 1 } } ∧
        ∀ e ∈ Spec.registers t, 0x30 ≤ e.1 → e.2.2 = 0#64) ∧
    (s.seq.phase = 0 → s.seq.op ≠ 0 → s.cancelReq = true →
      ∃ m, Spec.flags s.res.agg m ∧
        exec .suite s = .next (Spec.completedCancelled { s with res := { s.res with aggFaultyMask := m } })) ∧
    (∀ i u, (s.seq.phase = 0 → s.seq.op ≠ 0 ∧ s.cancelReq = false) → s.seq.call < 19 →
      decode (Spec.suiteWord s.cfg s.seq.call) = .ok i → exec i s = .next u →
      (u.busy = true → exec .suite s = .next { u with progress := s.progress }) ∧
      (u.busy = false →
        ∃ t, exec .suite s = .next t ∧
          t.res.slog = s.res.slog.setIfInBounds s.seq.call
            { cmd := Spec.suiteWord s.cfg s.seq.call, result := s.res.tr } ∧
          t.res.slogCount = BitVec.ofNat 5 (s.seq.call + 1) ∧
          Spec.folded s.res.agg s.res.tr t.res.agg ∧
          t.res = { s.res with
            slog := t.res.slog, slogCount := t.res.slogCount, agg := t.res.agg
            aggFaultyMask := t.res.aggFaultyMask } ∧
          (s.seq.call < 18 → t = { s with
            res := { t.res with aggFaultyMask := s.res.aggFaultyMask }
            progress := BitVec.ofNat 7 (100 * (s.seq.call + 1) / 19)
            seq := { s.seq with call := s.seq.call + 1, phase := 0, op := 1 } }) ∧
          (s.seq.call = 18 → Spec.flags t.res.agg t.res.aggFaultyMask ∧
            t = Spec.completed { s with res := t.res })))

/-- R330, R332, R335, R336: the steps of `FULLPASS`. Its prologue clears every result; before each of stages 2
to 6 a cancel point sends it to stage 7; a step of a stage is the step the stage's own command takes, with
`PROGRESS` left alone; when that command completes, the next stage begins and `PROGRESS` is the floor of 100
st / 7; a stage cancelled at a cancel point of its own leads to stage 7; and stage 7 ends the pass, as
cancelled if a cancel point fired. How the pseudocode is cut into steps and how `SEQ` numbers them is the
model's (logs 7, 8, 9, 10). -/
def Obligations.FullpassSteps : Prop :=
  ∀ s : State, s.Running →
    (s.seq.stage = 0 →
      ∃ t, exec .fullpass s = .next t ∧
        t = { s with
          res := t.res, work := { s.work with cancelling := false }, seq := { Spec.seqZero with stage := 1 } } ∧
        ∀ e ∈ Spec.registers t, 0x20 ≤ e.1 → e.2.2 = 0#64) ∧
    (2 ≤ s.seq.stage → s.seq.stage ≤ 6 → s.seq.phase = 0 → s.seq.op = 0 → s.seq.call = 0 → s.cancelReq = true →
      exec .fullpass s = .next { s with
        work := { s.work with cancelling := true }, seq := { Spec.seqZero with stage := 7 } }) ∧
    (∀ i u, [Instr.activate, .verifyData, .verifyAddr, .verifyCtrl, .crosstalk, .suite, .deactivate][s.seq.stage - 1]?
        = some i → 1 ≤ s.seq.stage →
      ¬ (2 ≤ s.seq.stage ∧ s.seq.stage ≤ 6 ∧ s.seq.phase = 0 ∧ s.seq.op = 0 ∧ s.seq.call = 0 ∧
        s.cancelReq = true) →
      s.cancelled = false → exec i s = .next u →
      (u.busy = true → exec .fullpass s = .next { u with progress := s.progress }) ∧
      (u.busy = false → u.cancelled = false → s.seq.stage ≤ 6 →
        exec .fullpass s = .next { u with
          busy := true, done := s.done, cancelReq := s.cancelReq
          progress := BitVec.ofNat 7 (100 * s.seq.stage / 7)
          seq := { Spec.seqZero with stage := s.seq.stage + 1 } }) ∧
      (u.busy = false → u.cancelled = true →
        exec .fullpass s = .next { u with
          busy := true, done := s.done, cancelReq := s.cancelReq, cancelled := false
          progress := s.progress
          work := { u.work with cancelling := true }
          seq := { Spec.seqZero with stage := 7 } }) ∧
      (u.busy = false → s.seq.stage = 7 → s.work.cancelling = false → exec .fullpass s = .next u) ∧
      (u.busy = false → s.seq.stage = 7 → s.work.cancelling = true →
        exec .fullpass s = .next { u with cancelled := true, progress := s.progress }))

/-- R322, R323, R325, R327: the whole run of `SUITE` from its acceptance, on any legal region and against any
environment: it completes, all nineteen calls are in the log under the words of their rows, the aggregate is
the saturating sum of the log, counter by counter, the faulty-bit mask is the aggregate's, `TR` is the last
call's result, and no other result register, no pin and no other register changes. -/
def Obligations.SuiteRun : Prop :=
  ∀ s : State, s.busy = false → s.mode = .owned → s.region.length.toNat ≤ 65536 →
    ∃ n t, Spec.execN .suite n s = .next t ∧
      t = Spec.completed { Spec.accepted 0x30#64 s with
        res := { s.res with
          tr := t.res.tr, agg := t.res.agg, aggFaultyMask := t.res.aggFaultyMask, slogCount := 19#5
          slog := t.res.slog }
        trace := t.trace, answers := t.answers, answered := t.answered, seq := t.seq, work := t.work } ∧
      (∀ c : Fin 19, (t.res.slog.get c).cmd = Spec.suiteWord s.cfg c.val) ∧
      t.res.agg.total = Spec.sat ((List.finRange 19).map fun c => (t.res.slog.get c).result.total.toNat).sum ∧
      (∀ i : Fin 8, t.res.agg.bit.get i =
        Spec.sat ((List.finRange 19).map fun c => ((t.res.slog.get c).result.bit.get i).toNat).sum) ∧
      Spec.flags t.res.agg t.res.aggFaultyMask ∧ t.res.tr = (t.res.slog.get 18).result

/-- The pins but for the two read-only lines: quiescent (R33), with `TEST` driven to inactive or released. -/
def Spec.afterPass (testDir : Dir) (p : Pins) : Prop :=
  p.dataDir = .input ∧ p.dataOut = 0#8 ∧ p.addrDir = .input ∧ p.addrOut = 0#16 ∧
  ∀ g : Sig, g ≠ .sysRes → g ≠ .intAck →
    p.ctlOut.get g.idx = false ∧
    p.ctlDir.get g.idx = if g = .test then testDir else if g = .int ∨ g = .wait then .output else .input

/-- R96: the `k`-th answer (from 0) the environment gives to the reads that follow `s`. -/
def Spec.answerAt (s : State) (k : Nat) : BitVec 16 := (s.answers[k]?).getD (Config.envAnswer (s.answered + k))

/-- What every run of `FULLPASS` that started at `s` leaves at its end. -/
def Spec.passKeeps (s t : State) : Prop :=
  t.lastcmd = 0x3F#64 ∧ t.cancelled = false ∧ t.err = .none ∧ t.cfg = s.cfg ∧ t.region = s.region ∧
  t.icRef = s.icRef ∧ t.res.snap = 0#64

/-- R330: the end of a `FULLPASS` that completed. -/
def Spec.passCompleted (s t : State) : Prop :=
  Spec.passKeeps s t ∧ t.mode = .released ∧ t.busy = false ∧ t.done = true ∧ t.cancelReq = false ∧
  t.progress = 100#7 ∧ t.fatal = s.fatal ∧ t.res.slogCount = 19#5 ∧ Spec.afterPass .input t.pins

/-- R331: the end of a `FULLPASS` that halted in its first stage. -/
def Spec.passNotStarted (s t : State) : Prop :=
  Spec.passKeeps s t ∧ t.mode = .halted ∧ t.busy = true ∧ t.done = false ∧ t.progress = 0#7 ∧
  ∀ e ∈ Spec.registers t, 0x20 ≤ e.1 → e.2.2 = 0#64

/-- R331: the end of a `FULLPASS` that halted in its last stage. -/
def Spec.passNotEnded (s t : State) : Prop :=
  Spec.passKeeps s t ∧ t.mode = .halted ∧ t.fatal = .deactivateFailed ∧ t.busy = true ∧ t.done = false ∧
  t.progress = 85#7 ∧ t.res.slogCount = 19#5 ∧ Spec.afterPass .output t.pins

/-- R329, R410: the most answers the stages after the activation use: 498 first-hand reads of the lines, 494
samples for each turn of the confirmation loops (8, 16 and 7 candidates, 33 triggers of 14 reads, and the
deactivation), and the reads of the suite in each cell. -/
def Spec.passReads (c : Cfg) (r : Region) : Nat :=
  498 + 494 * c.confirmLoops.toNat + (53 + 2 * c.rdReads.toNat) * r.length.toNat

/-- R330 to R332: the whole run of `FULLPASS` from its acceptance, and which answers lead where. If the first
read of `TEST` answers active, it halts with cause 1 after two bus operations; if too few of the
`CFG_CONFIRM_LOOPS` samples of the activation answer active, it halts with cause 2: both times no test has run
and every result register is 0. If enough do, all stages run, whatever the answers, and the last
`CFG_CONFIRM_LOOPS` answers it uses, the samples of the deactivation, decide: if enough of them are inactive
it completes in `RELEASED` with the pins quiescent, `TEST` released and nineteen calls in the suite log; else
it halts with cause 3 with the nineteen calls in the log and `TEST` driven inactive. In particular it
completes if the activation is confirmed and every read after it answers inactive. -/
def Obligations.FullpassRun : Prop :=
  ∀ (s : State) (first : BitVec 16) (l rest : List (BitVec 16)),
    s.busy = false → s.mode = .released → Spec.groupOk .all s.cfg = true → s.region.length.toNat ≤ 65536 →
    s.answers = first :: (l ++ rest) → l.length = s.cfg.confirmLoops.toNat →
    (first.getLsbD 0 = true →
      ∃ n t, Spec.execN .fullpass n s = .next t ∧ Spec.passNotStarted s t ∧ t.fatal = .alreadyActive ∧
        t.trace = [.ctlRead .test true, .ctlDir .test .input] ++ s.trace) ∧
    (first.getLsbD 0 = false → (l.countP fun a => a.getLsbD 0) * 100 < s.cfg.actPct.toNat * l.length →
      ∃ n t, Spec.execN .fullpass n s = .next t ∧ Spec.passNotStarted s t ∧ t.fatal = .activateFailed ∧
        t.answers = rest) ∧
    (first.getLsbD 0 = false → s.cfg.actPct.toNat * l.length ≤ (l.countP fun a => a.getLsbD 0) * 100 →
      ∃ n t m, Spec.execN .fullpass n s = .next t ∧ 1 + l.length ≤ m ∧
        t.answered = s.answered + m + l.length ∧
        (if s.cfg.actPct.toNat * l.length ≤
            ((List.range l.length).countP fun k => !(Spec.answerAt s (m + k)).getLsbD 0) * 100
          then Spec.passCompleted s t else Spec.passNotEnded s t)) ∧
    (first.getLsbD 0 = false → s.cfg.actPct.toNat * l.length ≤ (l.countP fun a => a.getLsbD 0) * 100 →
      Spec.passReads s.cfg s.region ≤ rest.length → (∀ a ∈ rest, a.getLsbD 0 = false) →
      ∃ n t, Spec.execN .fullpass n s = .next t ∧ Spec.passCompleted s t)

/-! ### Frames -/

/-- R30, R37, R40, R41, R55, R99: what no step of any command changes: the configuration, the region, the chip
labels, the host's side; and it issues at most one bus operation, at the end of the trace, and uses at most one
of the environment's answers. One bus operation at most in a step is
the model's cut (log 7). -/
def Obligations.ExecFrame : Prop :=
  ∀ (i : Instr) (s t : State), exec i s = .next t →
    t.cfg = s.cfg ∧ t.region = s.region ∧ t.icRef = s.icRef ∧ t.host = s.host ∧ t.replies = s.replies ∧
    t.draws = s.draws ∧ (t.trace = s.trace ∨ ∃ e, t.trace = e :: s.trace) ∧
    (t.answers = s.answers ∧ t.answered = s.answered ∨
      t.answers = s.answers.tail ∧ t.answered = s.answered + 1)

/-- R32, R85, R89, R210, R216, R231: the pins. Housekeeping, `SAMPLE`, the memory algorithms and `SUITE`
change no pin; `VERIFY_DATA` only the data bus, `VERIFY_ADDR` only the address bus, `VERIFY_CTRL` neither bus;
`TEST` and `MODE` change only in `ACTIVATE`, `DEACTIVATE` and `FULLPASS`, and the first two change no other
line; and no command ever changes `SYS_RES` or `INT_ACK`. -/
def Obligations.PinFrame : Prop :=
  ∀ (i : Instr) (s t : State), exec i s = .next t →
    (i = .nop ∨ i = .clear ∨ i = .sample ∨ i = .suite ∨ Spec.phases i ≠ [] → t.pins = s.pins) ∧
    (i = .verifyData → t.pins = { s.pins with dataOut := t.pins.dataOut, dataDir := t.pins.dataDir }) ∧
    (i = .verifyAddr → t.pins = { s.pins with addrOut := t.pins.addrOut, addrDir := t.pins.addrDir }) ∧
    (i = .verifyCtrl → t.pins = { s.pins with ctlOut := t.pins.ctlOut, ctlDir := t.pins.ctlDir }) ∧
    (i = .activate ∨ i = .deactivate → ∃ d b, t.pins = { s.pins with
      ctlDir := s.pins.ctlDir.set 10 d (by decide), ctlOut := s.pins.ctlOut.set 10 b (by decide) }) ∧
    (i ≠ .activate → i ≠ .deactivate → i ≠ .fullpass →
      t.mode = s.mode ∧ t.pins.ctlDir.get Sig.test.idx = s.pins.ctlDir.get Sig.test.idx ∧
        t.pins.ctlOut.get Sig.test.idx = s.pins.ctlOut.get Sig.test.idx) ∧
    ∀ g : Sig, g = .sysRes ∨ g = .intAck →
      t.pins.ctlDir.get g.idx = s.pins.ctlDir.get g.idx ∧ t.pins.ctlOut.get g.idx = s.pins.ctlOut.get g.idx

/-- R43 to R49, R231: a result register not belonging to the running command keeps its value. -/
def Obligations.ResultFrame : Prop :=
  ∀ (i : Instr) (s t : State), exec i s = .next t →
    (i = .nop ∨ i = .activate ∨ i = .deactivate → t.res = s.res) ∧
    (i = .sample → t.res = { s.res with snap := t.res.snap }) ∧
    (i = .verifyData → t.res = { s.res with frd := t.res.frd, issues := t.res.issues } ∧
      ∀ k, k ≠ 0 → t.res.issues.getLsbD k = s.res.issues.getLsbD k) ∧
    (i = .verifyAddr → t.res = { s.res with fra := t.res.fra, issues := t.res.issues } ∧
      ∀ k, k ≠ 1 → t.res.issues.getLsbD k = s.res.issues.getLsbD k) ∧
    (i = .verifyCtrl → t.res = { s.res with frc := t.res.frc, issues := t.res.issues } ∧
      ∀ k, k ≠ 2 → t.res.issues.getLsbD k = s.res.issues.getLsbD k) ∧
    (i = .crosstalk →
      t.res = { s.res with
        xtSource := t.res.xtSource, xtDest := t.res.xtDest, xtBaseline := t.res.xtBaseline
        issues := t.res.issues } ∧
      ∀ k, k ≠ 3 → t.res.issues.getLsbD k = s.res.issues.getLsbD k) ∧
    (Spec.phases i ≠ [] → t.res = { s.res with tr := t.res.tr }) ∧
    (i = .suite → t.res = { s.res with
      tr := t.res.tr, agg := t.res.agg, aggFaultyMask := t.res.aggFaultyMask
      slogCount := t.res.slogCount, slog := t.res.slog })

/-- What runs: the command itself; in `FULLPASS` the command of its stage (R330), and in `SUITE` and stage 6 of
`FULLPASS` the memory algorithm of the call (R326). -/
def Spec.algorithm (i : Instr) (s : State) : Instr :=
  match current i s.seq with
  | .suite => match decode (Spec.suiteWord s.cfg s.seq.call) with
    | .ok j => j
    | .error _ => .nop
  | j => j

/-- The bus operations a command's rules name (R155 to R165, R182, R183, R185, R186, R212, R215, R256, R275,
R311, R337, R338). -/
def Spec.mayIssue (i : Instr) (e : Event) : Prop :=
  match i with
  | .nop | .clear | .suite | .fullpass => False
  | .activate => match e with
    | .ctlDir g _ | .ctlWrite g _ | .ctlRead g _ => g = .test
    | .delay _ => True
    | _ => False
  | .deactivate => match e with
    | .ctlDir g d => g = .test ∧ d = .input
    | .ctlWrite g b => g = .test ∧ b = false
    | .ctlRead g _ => g = .test
    | .delay _ => True
    | _ => False
  | .verifyData => match e with
    | .dataDir _ | .dataWrite _ | .dataRead _ | .delay _ => True
    | _ => False
  | .verifyAddr => match e with
    | .addrDir _ | .addrWrite _ | .addrRead _ | .delay _ => True
    | _ => False
  | .verifyCtrl => match e with
    | .ctlDir g _ => g.idx.val ≤ 6 ∨ g = .int ∨ g = .wait
    | .ctlWrite g _ => g.idx.val ≤ 6
    | .ctlRead g _ => g ≠ .test
    | .delay _ => True
    | _ => False
  | .sample => match e with
    | .addrRead _ | .dataRead _ | .ctlRead _ _ => True
    | _ => False
  | .crosstalk => match e with
    | .addrRead _ | .dataRead _ | .ctlRead _ _ | .delay _ => True
    | .addrDir _ | .addrWrite _ | .dataDir _ | .dataWrite _ => True
    | .ctlDir g _ => g.idx.val ≤ 6
    | .ctlWrite g _ => g.idx.val ≤ 6 ∨ g = .int ∨ g = .wait
    | _ => False
  | .retention _ ms _ => match e with
    | .memRead _ _ | .memWrite _ _ => True
    | .delayMs n => n = ms
    | _ => False
  | .repwrite _ _ | .repread _ | .checker _ | .walk1 | .walk0 | .marchc | .marchss | .marchla
  | .movinv _ | .readdestr _ _ | .addruniq _ => match e with
    | .memRead _ _ | .memWrite _ _ => True
    | _ => False

/-- R32, R164, R231, R256, R330, R337, R338: a step of a command issues only the bus operations that command's
rules name; a step of `FULLPASS` those of the command of its stage, and a call of the suite those of the
memory algorithm of its row. -/
def Obligations.IssuedOperations : Prop :=
  ∀ (i : Instr) (s t : State) (e : Event), exec i s = .next t → t.trace = e :: s.trace →
    Spec.mayIssue (Spec.algorithm i s) e

/-- R30, R44, R55, R324: nothing the engine does depends on the trace, on the pin registers, on the flags, on
the chip labels, on the host's side, or on `ERR`: changing them changes the next state in them alone. -/
def Obligations.DecidesOnNothingElse : Prop :=
  ∀ (i : Instr) (s t : State), s.busy = true → exec i s = .next t →
    (∀ trace, exec i { s with trace := trace } =
      .next { t with trace := t.trace.take (t.trace.length - s.trace.length) ++ trace }) ∧
    (∀ icRef, exec i { s with icRef := icRef } = .next { t with icRef := icRef }) ∧
    (∀ host replies draws, exec i { s with host := host, replies := replies, draws := draws } =
      .next { t with host := host, replies := replies, draws := draws }) ∧
    (∀ err, exec i { s with err := err } = .next { t with err := err }) ∧
    (∀ pins, ∃ pins', exec i { s with pins := pins } = .next { t with pins := pins' }) ∧
    (∀ issues, ∃ issues', exec i { s with res := { s.res with issues := issues } } =
      .next { t with res := { t.res with issues := issues' } })

/-! ### Functions -/

/-- R92, R93: the address of cell `k` is `(REGION_START + k) mod 65536`, and the cells of a legal region have
different addresses. -/
def Obligations.CellAddresses : Prop :=
  ∀ (r : Region),
    (∀ k, (r.addr k).toNat = (r.start.toNat + k) % 65536) ∧
    (r.length.toNat ≤ 65536 → ∀ k l, k < r.length.toNat → l < r.length.toNat → r.addr k = r.addr l → k = l)

/-- R236: `Accumulate`, counter by counter, with its saturation; and the consequences R236 draws. -/
def Obligations.AccumulateRule : Prop :=
  (∀ (r : TestResult) (e x : Byte), Spec.counted r e x (r.accumulate e x)) ∧
  (∀ (r : TestResult) (e x : Byte), r.Sound → (r.accumulate e x).Sound) ∧
  (∀ r : TestResult, r.Sound → (r.total = 0#32 ↔ ∀ b : Fin 8, r.bit.get b = 0#32))

/-- R322, R323: the fold is the saturating sum of each counter, associative and commutative; the faulty-bit
mask has the bits whose counter is not 0, and is 0 exactly when the total is. -/
def Obligations.AggregateRule : Prop :=
  (∀ a r : TestResult, Spec.folded a r (a.fold r)) ∧
  (∀ a r q : TestResult, (a.fold r).fold q = (a.fold q).fold r ∧ (a.fold r).fold q = a.fold (r.fold q)) ∧
  (∀ a r : TestResult, a.fold r = r.fold a) ∧
  (∀ a : TestResult, Spec.flags a (faultyMask a)) ∧
  (∀ a : TestResult, a.Sound → (faultyMask a = 0#8 ↔ a.total = 0#32))

/-! ### Invariants that every step keeps -/

/-- R21 to R25, R128, R210, R370: ownership is kept by every step, host actions and reset among them. -/
def Obligations.OwnershipKept : Prop := ∀ s t : State, OwnershipInv s → step s = .next t → OwnershipInv t

/-- R217: the gate is kept: a bus operation other than those of the activation and the reads of lines is
issued only after a `CtlWrite(TEST, true)` and before the next `CtlWrite(TEST, false)`. The invariant names
positions of `SEQ` in the model's numbering (log 9). -/
def Obligations.GateKept : Prop := ∀ s t : State, GateInv s → step s = .next t → GateInv t

/-- R33, R34, R161, R185, R212, R215, R352: the pins are where the position of the running command puts them,
and quiescent, with `TEST` as the mode says, whenever nothing runs. The invariant names positions of `SEQ` in
the model's numbering (log 9). -/
def Obligations.PinsKept : Prop := ∀ s t : State, PinsInv s → step s = .next t → PinsInv t

/-- R44: each `ISSUES` bit keeps summarising its record. -/
def Obligations.IssuesKept : Prop := ∀ s t : State, IssuesInv s → step s = .next t → IssuesInv t

/-- R45, R131, R190: the snapshots and masks keep bits 63:36 at 0, `XT_SOURCE` has bits only at drivable
positions, and `XT_SOURCE` and `XT_DEST` are 0 together. The invariant names positions of `SEQ` in the model's
numbering (log 9). -/
def Obligations.CrosstalkKept : Prop := ∀ s t : State, CrosstalkInv s → step s = .next t → CrosstalkInv t

/-- R43, R162 to R164: the control record keeps bits 7 to 11 of stuck high and bit 10 of stuck low at 0. The
invariant names `PHASE` 0 in the model's numbering (log 9) and the model's registers `sh` and `sl` (log 10).
-/
def Obligations.CtrlRecordKept : Prop := ∀ s t : State, CtrlRecordInv s → step s = .next t → CtrlRecordInv t

/-- R236, R322, R325: in `TR`, in the aggregate and in every log entry, each bit counter stays at most the
total and the total at most their sum. -/
def Obligations.CountersKept : Prop := ∀ s t : State, CountersInv s → step s = .next t → CountersInv t

/-- R27: `PROGRESS` stays within 0 to 100, and within one command never decreases. The invariant names
positions of `SEQ` in the model's numbering (log 9). -/
def Obligations.ProgressKept : Prop :=
  ∀ s t : State, ProgressInv s → step s = .next t →
    ProgressInv t ∧
    (s.busy = true → (∀ rest, s.host ≠ .reset :: rest) → s.progress.toNat ≤ t.progress.toNat)

/-- R93, R238: in a pass, `POSK` is a cell of the region, or the terminal value. -/
def Spec.RegionInv (s : State) : Prop :=
  ∀ i d ops, s.Runs i → 1 ≤ s.seq.phase →
    (Spec.phases (Spec.algorithm i s))[s.seq.phase - 1]? = some (.pass d ops) →
    s.seq.posk < s.region.length.toNat ∨ s.seq.posk = 65536

/-- R93, R238: a pass stays inside the region, and every address of a memory primitive is a cell of it. The
invariant names positions of `SEQ` in the model's numbering (log 9). -/
def Obligations.RegionKept : Prop :=
  ∀ s t : State, Spec.RegionInv s → step s = .next t →
    Spec.RegionInv t ∧
    ∀ a v, t.trace = .memRead a v :: s.trace ∨ t.trace = .memWrite a v :: s.trace →
      ∃ k < s.region.length.toNat, a = Spec.cellAddr s.region k

/-- The invariants hold right after reset. -/
def Obligations.InvariantsHoldAtReset : Prop :=
  OwnershipInv State.reset ∧ GateInv State.reset ∧ PinsInv State.reset ∧ IssuesInv State.reset ∧
  CrosstalkInv State.reset ∧ CtrlRecordInv State.reset ∧ CountersInv State.reset ∧
  ProgressInv State.reset ∧ Spec.RegionInv State.reset

/-! ### Whole-machine rules -/

/-- R12, R81: the primitives that drive the pins or the mapped memory: every one but the reads of lines and the
delays. -/
def Spec.drives (e : Event) : Bool :=
  match e with
  | .dataDir _ | .dataWrite _ | .addrDir _ | .addrWrite _ | .ctlDir _ _ | .ctlWrite _ _ => true
  | .memRead _ _ | .memWrite _ _ => true
  | .dataRead _ | .addrRead _ | .ctlRead _ _ | .delay _ | .delayMs _ | .reset => false

/-- R105: a memory primitive and a pin-driving primitive, those on `TEST` among them, is issued only while
`MODE` is `OWNED`; only the activation (`ACTIVATE`, and stage 1 of `FULLPASS`) is excepted, and it drives
`TEST` alone. The waits of RETENTION, too, happen only in `OWNED`. -/
def Obligations.DrivenOnlyWhileOwned : Prop :=
  ∀ (s t : State) (e : Event), OwnershipInv s → step s = .next t → t.trace = e :: s.trace →
    (Spec.drives e = true → (∀ i, s.Runs i → current i s.seq ≠ .activate) → s.mode = .owned) ∧
    (Spec.drives e = true → s.mode ≠ .owned → ∃ d b, e = .ctlDir .test d ∨ e = .ctlWrite .test b) ∧
    (∀ n, e = .delayMs n → s.mode = .owned)

/-- R97, R154, R352: outside `HALTED` the machine never stops: every step, of the engine and of the host,
gives a next state, and no instruction is refused. -/
def Obligations.NeverStopsUnlessHalted : Prop :=
  ∀ s : State, OwnershipInv s → s.mode ≠ .halted → ∃ t, step s = .next t

/-- R9, R22, R97: every command ends, whatever the environment answers: it completes, or it halts. The count
of steps is the model's (log 7). -/
def Obligations.EveryCommandEnds : Prop :=
  ∀ (i : Instr) (s : State), i.wellFormed = true → s.Running →
    ∃ n t, Spec.execN i n s = .next t ∧ (t.busy = false ∨ t.mode = .halted)
end

