-- ==== Sys2Proof/Laws/State.lean ====
section
/-! SUPPORT. What each update of the state leaves in each field: one lemma per field per update, true by
definition and tagged for `simp`, so that no proof unfolds a record update. -/

namespace Sys2Proof.Machine

variable (s : State)

/-! ### `State.setPins` -/

@[simp] theorem State.setPins_mode (p : Pins) : (s.setPins p).mode = s.mode := rfl
@[simp] theorem State.setPins_busy (p : Pins) : (s.setPins p).busy = s.busy := rfl
@[simp] theorem State.setPins_done (p : Pins) : (s.setPins p).done = s.done := rfl
@[simp] theorem State.setPins_err (p : Pins) : (s.setPins p).err = s.err := rfl
@[simp] theorem State.setPins_fatal (p : Pins) : (s.setPins p).fatal = s.fatal := rfl
@[simp] theorem State.setPins_cancelReq (p : Pins) : (s.setPins p).cancelReq = s.cancelReq := rfl
@[simp] theorem State.setPins_cancelled (p : Pins) : (s.setPins p).cancelled = s.cancelled := rfl
@[simp] theorem State.setPins_progress (p : Pins) : (s.setPins p).progress = s.progress := rfl
@[simp] theorem State.setPins_lastcmd (p : Pins) : (s.setPins p).lastcmd = s.lastcmd := rfl
@[simp] theorem State.setPins_pins (p : Pins) : (s.setPins p).pins = p := rfl
@[simp] theorem State.setPins_cfg (p : Pins) : (s.setPins p).cfg = s.cfg := rfl
@[simp] theorem State.setPins_region (p : Pins) : (s.setPins p).region = s.region := rfl
@[simp] theorem State.setPins_icRef (p : Pins) : (s.setPins p).icRef = s.icRef := rfl
@[simp] theorem State.setPins_res (p : Pins) : (s.setPins p).res = s.res := rfl
@[simp] theorem State.setPins_seq (p : Pins) : (s.setPins p).seq = s.seq := rfl
@[simp] theorem State.setPins_work (p : Pins) : (s.setPins p).work = s.work := rfl
@[simp] theorem State.setPins_trace (p : Pins) : (s.setPins p).trace = s.trace := rfl
@[simp] theorem State.setPins_answers (p : Pins) : (s.setPins p).answers = s.answers := rfl
@[simp] theorem State.setPins_answered (p : Pins) : (s.setPins p).answered = s.answered := rfl
@[simp] theorem State.setPins_draws (p : Pins) : (s.setPins p).draws = s.draws := rfl
@[simp] theorem State.setPins_host (p : Pins) : (s.setPins p).host = s.host := rfl
@[simp] theorem State.setPins_replies (p : Pins) : (s.setPins p).replies = s.replies := rfl

/-! ### `State.setWork` -/

@[simp] theorem State.setWork_mode (w : Work) : (s.setWork w).mode = s.mode := rfl
@[simp] theorem State.setWork_busy (w : Work) : (s.setWork w).busy = s.busy := rfl
@[simp] theorem State.setWork_done (w : Work) : (s.setWork w).done = s.done := rfl
@[simp] theorem State.setWork_err (w : Work) : (s.setWork w).err = s.err := rfl
@[simp] theorem State.setWork_fatal (w : Work) : (s.setWork w).fatal = s.fatal := rfl
@[simp] theorem State.setWork_cancelReq (w : Work) : (s.setWork w).cancelReq = s.cancelReq := rfl
@[simp] theorem State.setWork_cancelled (w : Work) : (s.setWork w).cancelled = s.cancelled := rfl
@[simp] theorem State.setWork_progress (w : Work) : (s.setWork w).progress = s.progress := rfl
@[simp] theorem State.setWork_lastcmd (w : Work) : (s.setWork w).lastcmd = s.lastcmd := rfl
@[simp] theorem State.setWork_pins (w : Work) : (s.setWork w).pins = s.pins := rfl
@[simp] theorem State.setWork_cfg (w : Work) : (s.setWork w).cfg = s.cfg := rfl
@[simp] theorem State.setWork_region (w : Work) : (s.setWork w).region = s.region := rfl
@[simp] theorem State.setWork_icRef (w : Work) : (s.setWork w).icRef = s.icRef := rfl
@[simp] theorem State.setWork_res (w : Work) : (s.setWork w).res = s.res := rfl
@[simp] theorem State.setWork_seq (w : Work) : (s.setWork w).seq = s.seq := rfl
@[simp] theorem State.setWork_work (w : Work) : (s.setWork w).work = w := rfl
@[simp] theorem State.setWork_trace (w : Work) : (s.setWork w).trace = s.trace := rfl
@[simp] theorem State.setWork_answers (w : Work) : (s.setWork w).answers = s.answers := rfl
@[simp] theorem State.setWork_answered (w : Work) : (s.setWork w).answered = s.answered := rfl
@[simp] theorem State.setWork_draws (w : Work) : (s.setWork w).draws = s.draws := rfl
@[simp] theorem State.setWork_host (w : Work) : (s.setWork w).host = s.host := rfl
@[simp] theorem State.setWork_replies (w : Work) : (s.setWork w).replies = s.replies := rfl

/-! ### `State.setRes` -/

@[simp] theorem State.setRes_mode (r : Results) : (s.setRes r).mode = s.mode := rfl
@[simp] theorem State.setRes_busy (r : Results) : (s.setRes r).busy = s.busy := rfl
@[simp] theorem State.setRes_done (r : Results) : (s.setRes r).done = s.done := rfl
@[simp] theorem State.setRes_err (r : Results) : (s.setRes r).err = s.err := rfl
@[simp] theorem State.setRes_fatal (r : Results) : (s.setRes r).fatal = s.fatal := rfl
@[simp] theorem State.setRes_cancelReq (r : Results) : (s.setRes r).cancelReq = s.cancelReq := rfl
@[simp] theorem State.setRes_cancelled (r : Results) : (s.setRes r).cancelled = s.cancelled := rfl
@[simp] theorem State.setRes_progress (r : Results) : (s.setRes r).progress = s.progress := rfl
@[simp] theorem State.setRes_lastcmd (r : Results) : (s.setRes r).lastcmd = s.lastcmd := rfl
@[simp] theorem State.setRes_pins (r : Results) : (s.setRes r).pins = s.pins := rfl
@[simp] theorem State.setRes_cfg (r : Results) : (s.setRes r).cfg = s.cfg := rfl
@[simp] theorem State.setRes_region (r : Results) : (s.setRes r).region = s.region := rfl
@[simp] theorem State.setRes_icRef (r : Results) : (s.setRes r).icRef = s.icRef := rfl
@[simp] theorem State.setRes_res (r : Results) : (s.setRes r).res = r := rfl
@[simp] theorem State.setRes_seq (r : Results) : (s.setRes r).seq = s.seq := rfl
@[simp] theorem State.setRes_work (r : Results) : (s.setRes r).work = s.work := rfl
@[simp] theorem State.setRes_trace (r : Results) : (s.setRes r).trace = s.trace := rfl
@[simp] theorem State.setRes_answers (r : Results) : (s.setRes r).answers = s.answers := rfl
@[simp] theorem State.setRes_answered (r : Results) : (s.setRes r).answered = s.answered := rfl
@[simp] theorem State.setRes_draws (r : Results) : (s.setRes r).draws = s.draws := rfl
@[simp] theorem State.setRes_host (r : Results) : (s.setRes r).host = s.host := rfl
@[simp] theorem State.setRes_replies (r : Results) : (s.setRes r).replies = s.replies := rfl

/-! ### `State.setSeq` -/

@[simp] theorem State.setSeq_mode (q : Seq) : (s.setSeq q).mode = s.mode := rfl
@[simp] theorem State.setSeq_busy (q : Seq) : (s.setSeq q).busy = s.busy := rfl
@[simp] theorem State.setSeq_done (q : Seq) : (s.setSeq q).done = s.done := rfl
@[simp] theorem State.setSeq_err (q : Seq) : (s.setSeq q).err = s.err := rfl
@[simp] theorem State.setSeq_fatal (q : Seq) : (s.setSeq q).fatal = s.fatal := rfl
@[simp] theorem State.setSeq_cancelReq (q : Seq) : (s.setSeq q).cancelReq = s.cancelReq := rfl
@[simp] theorem State.setSeq_cancelled (q : Seq) : (s.setSeq q).cancelled = s.cancelled := rfl
@[simp] theorem State.setSeq_progress (q : Seq) : (s.setSeq q).progress = s.progress := rfl
@[simp] theorem State.setSeq_lastcmd (q : Seq) : (s.setSeq q).lastcmd = s.lastcmd := rfl
@[simp] theorem State.setSeq_pins (q : Seq) : (s.setSeq q).pins = s.pins := rfl
@[simp] theorem State.setSeq_cfg (q : Seq) : (s.setSeq q).cfg = s.cfg := rfl
@[simp] theorem State.setSeq_region (q : Seq) : (s.setSeq q).region = s.region := rfl
@[simp] theorem State.setSeq_icRef (q : Seq) : (s.setSeq q).icRef = s.icRef := rfl
@[simp] theorem State.setSeq_res (q : Seq) : (s.setSeq q).res = s.res := rfl
@[simp] theorem State.setSeq_seq (q : Seq) : (s.setSeq q).seq = q := rfl
@[simp] theorem State.setSeq_work (q : Seq) : (s.setSeq q).work = s.work := rfl
@[simp] theorem State.setSeq_trace (q : Seq) : (s.setSeq q).trace = s.trace := rfl
@[simp] theorem State.setSeq_answers (q : Seq) : (s.setSeq q).answers = s.answers := rfl
@[simp] theorem State.setSeq_answered (q : Seq) : (s.setSeq q).answered = s.answered := rfl
@[simp] theorem State.setSeq_draws (q : Seq) : (s.setSeq q).draws = s.draws := rfl
@[simp] theorem State.setSeq_host (q : Seq) : (s.setSeq q).host = s.host := rfl
@[simp] theorem State.setSeq_replies (q : Seq) : (s.setSeq q).replies = s.replies := rfl

/-! ### `State.setMode` -/

@[simp] theorem State.setMode_mode (m : Mode) : (s.setMode m).mode = m := rfl
@[simp] theorem State.setMode_busy (m : Mode) : (s.setMode m).busy = s.busy := rfl
@[simp] theorem State.setMode_done (m : Mode) : (s.setMode m).done = s.done := rfl
@[simp] theorem State.setMode_err (m : Mode) : (s.setMode m).err = s.err := rfl
@[simp] theorem State.setMode_fatal (m : Mode) : (s.setMode m).fatal = s.fatal := rfl
@[simp] theorem State.setMode_cancelReq (m : Mode) : (s.setMode m).cancelReq = s.cancelReq := rfl
@[simp] theorem State.setMode_cancelled (m : Mode) : (s.setMode m).cancelled = s.cancelled := rfl
@[simp] theorem State.setMode_progress (m : Mode) : (s.setMode m).progress = s.progress := rfl
@[simp] theorem State.setMode_lastcmd (m : Mode) : (s.setMode m).lastcmd = s.lastcmd := rfl
@[simp] theorem State.setMode_pins (m : Mode) : (s.setMode m).pins = s.pins := rfl
@[simp] theorem State.setMode_cfg (m : Mode) : (s.setMode m).cfg = s.cfg := rfl
@[simp] theorem State.setMode_region (m : Mode) : (s.setMode m).region = s.region := rfl
@[simp] theorem State.setMode_icRef (m : Mode) : (s.setMode m).icRef = s.icRef := rfl
@[simp] theorem State.setMode_res (m : Mode) : (s.setMode m).res = s.res := rfl
@[simp] theorem State.setMode_seq (m : Mode) : (s.setMode m).seq = s.seq := rfl
@[simp] theorem State.setMode_work (m : Mode) : (s.setMode m).work = s.work := rfl
@[simp] theorem State.setMode_trace (m : Mode) : (s.setMode m).trace = s.trace := rfl
@[simp] theorem State.setMode_answers (m : Mode) : (s.setMode m).answers = s.answers := rfl
@[simp] theorem State.setMode_answered (m : Mode) : (s.setMode m).answered = s.answered := rfl
@[simp] theorem State.setMode_draws (m : Mode) : (s.setMode m).draws = s.draws := rfl
@[simp] theorem State.setMode_host (m : Mode) : (s.setMode m).host = s.host := rfl
@[simp] theorem State.setMode_replies (m : Mode) : (s.setMode m).replies = s.replies := rfl

/-! ### `State.setProgress` -/

@[simp] theorem State.setProgress_mode (v : BitVec 7) : (s.setProgress v).mode = s.mode := rfl
@[simp] theorem State.setProgress_busy (v : BitVec 7) : (s.setProgress v).busy = s.busy := rfl
@[simp] theorem State.setProgress_done (v : BitVec 7) : (s.setProgress v).done = s.done := rfl
@[simp] theorem State.setProgress_err (v : BitVec 7) : (s.setProgress v).err = s.err := rfl
@[simp] theorem State.setProgress_fatal (v : BitVec 7) : (s.setProgress v).fatal = s.fatal := rfl
@[simp] theorem State.setProgress_cancelReq (v : BitVec 7) : (s.setProgress v).cancelReq = s.cancelReq := rfl
@[simp] theorem State.setProgress_cancelled (v : BitVec 7) : (s.setProgress v).cancelled = s.cancelled := rfl
@[simp] theorem State.setProgress_progress (v : BitVec 7) : (s.setProgress v).progress = v := rfl
@[simp] theorem State.setProgress_lastcmd (v : BitVec 7) : (s.setProgress v).lastcmd = s.lastcmd := rfl
@[simp] theorem State.setProgress_pins (v : BitVec 7) : (s.setProgress v).pins = s.pins := rfl
@[simp] theorem State.setProgress_cfg (v : BitVec 7) : (s.setProgress v).cfg = s.cfg := rfl
@[simp] theorem State.setProgress_region (v : BitVec 7) : (s.setProgress v).region = s.region := rfl
@[simp] theorem State.setProgress_icRef (v : BitVec 7) : (s.setProgress v).icRef = s.icRef := rfl
@[simp] theorem State.setProgress_res (v : BitVec 7) : (s.setProgress v).res = s.res := rfl
@[simp] theorem State.setProgress_seq (v : BitVec 7) : (s.setProgress v).seq = s.seq := rfl
@[simp] theorem State.setProgress_work (v : BitVec 7) : (s.setProgress v).work = s.work := rfl
@[simp] theorem State.setProgress_trace (v : BitVec 7) : (s.setProgress v).trace = s.trace := rfl
@[simp] theorem State.setProgress_answers (v : BitVec 7) : (s.setProgress v).answers = s.answers := rfl
@[simp] theorem State.setProgress_answered (v : BitVec 7) : (s.setProgress v).answered = s.answered := rfl
@[simp] theorem State.setProgress_draws (v : BitVec 7) : (s.setProgress v).draws = s.draws := rfl
@[simp] theorem State.setProgress_host (v : BitVec 7) : (s.setProgress v).host = s.host := rfl
@[simp] theorem State.setProgress_replies (v : BitVec 7) : (s.setProgress v).replies = s.replies := rfl

/-! ### `State.emit` -/

@[simp] theorem State.emit_mode (e : Event) : (s.emit e).mode = s.mode := rfl
@[simp] theorem State.emit_busy (e : Event) : (s.emit e).busy = s.busy := rfl
@[simp] theorem State.emit_done (e : Event) : (s.emit e).done = s.done := rfl
@[simp] theorem State.emit_err (e : Event) : (s.emit e).err = s.err := rfl
@[simp] theorem State.emit_fatal (e : Event) : (s.emit e).fatal = s.fatal := rfl
@[simp] theorem State.emit_cancelReq (e : Event) : (s.emit e).cancelReq = s.cancelReq := rfl
@[simp] theorem State.emit_cancelled (e : Event) : (s.emit e).cancelled = s.cancelled := rfl
@[simp] theorem State.emit_progress (e : Event) : (s.emit e).progress = s.progress := rfl
@[simp] theorem State.emit_lastcmd (e : Event) : (s.emit e).lastcmd = s.lastcmd := rfl
@[simp] theorem State.emit_pins (e : Event) : (s.emit e).pins = s.pins := rfl
@[simp] theorem State.emit_cfg (e : Event) : (s.emit e).cfg = s.cfg := rfl
@[simp] theorem State.emit_region (e : Event) : (s.emit e).region = s.region := rfl
@[simp] theorem State.emit_icRef (e : Event) : (s.emit e).icRef = s.icRef := rfl
@[simp] theorem State.emit_res (e : Event) : (s.emit e).res = s.res := rfl
@[simp] theorem State.emit_seq (e : Event) : (s.emit e).seq = s.seq := rfl
@[simp] theorem State.emit_work (e : Event) : (s.emit e).work = s.work := rfl
@[simp] theorem State.emit_trace (e : Event) : (s.emit e).trace = e :: s.trace := rfl
@[simp] theorem State.emit_answers (e : Event) : (s.emit e).answers = s.answers := rfl
@[simp] theorem State.emit_answered (e : Event) : (s.emit e).answered = s.answered := rfl
@[simp] theorem State.emit_draws (e : Event) : (s.emit e).draws = s.draws := rfl
@[simp] theorem State.emit_host (e : Event) : (s.emit e).host = s.host := rfl
@[simp] theorem State.emit_replies (e : Event) : (s.emit e).replies = s.replies := rfl

/-! ### `State.consume` -/

@[simp] theorem State.consume_mode : (s.consume).mode = s.mode := rfl
@[simp] theorem State.consume_busy : (s.consume).busy = s.busy := rfl
@[simp] theorem State.consume_done : (s.consume).done = s.done := rfl
@[simp] theorem State.consume_err : (s.consume).err = s.err := rfl
@[simp] theorem State.consume_fatal : (s.consume).fatal = s.fatal := rfl
@[simp] theorem State.consume_cancelReq : (s.consume).cancelReq = s.cancelReq := rfl
@[simp] theorem State.consume_cancelled : (s.consume).cancelled = s.cancelled := rfl
@[simp] theorem State.consume_progress : (s.consume).progress = s.progress := rfl
@[simp] theorem State.consume_lastcmd : (s.consume).lastcmd = s.lastcmd := rfl
@[simp] theorem State.consume_pins : (s.consume).pins = s.pins := rfl
@[simp] theorem State.consume_cfg : (s.consume).cfg = s.cfg := rfl
@[simp] theorem State.consume_region : (s.consume).region = s.region := rfl
@[simp] theorem State.consume_icRef : (s.consume).icRef = s.icRef := rfl
@[simp] theorem State.consume_res : (s.consume).res = s.res := rfl
@[simp] theorem State.consume_seq : (s.consume).seq = s.seq := rfl
@[simp] theorem State.consume_work : (s.consume).work = s.work := rfl
@[simp] theorem State.consume_trace : (s.consume).trace = s.trace := rfl
@[simp] theorem State.consume_answers : (s.consume).answers = s.answers.tail := rfl
@[simp] theorem State.consume_answered : (s.consume).answered = s.answered + 1 := rfl
@[simp] theorem State.consume_draws : (s.consume).draws = s.draws := rfl
@[simp] theorem State.consume_host : (s.consume).host = s.host := rfl
@[simp] theorem State.consume_replies : (s.consume).replies = s.replies := rfl

/-! ### `State.gotoOp` -/

@[simp] theorem State.gotoOp_mode (o : Nat) : (s.gotoOp o).mode = s.mode := rfl
@[simp] theorem State.gotoOp_busy (o : Nat) : (s.gotoOp o).busy = s.busy := rfl
@[simp] theorem State.gotoOp_done (o : Nat) : (s.gotoOp o).done = s.done := rfl
@[simp] theorem State.gotoOp_err (o : Nat) : (s.gotoOp o).err = s.err := rfl
@[simp] theorem State.gotoOp_fatal (o : Nat) : (s.gotoOp o).fatal = s.fatal := rfl
@[simp] theorem State.gotoOp_cancelReq (o : Nat) : (s.gotoOp o).cancelReq = s.cancelReq := rfl
@[simp] theorem State.gotoOp_cancelled (o : Nat) : (s.gotoOp o).cancelled = s.cancelled := rfl
@[simp] theorem State.gotoOp_progress (o : Nat) : (s.gotoOp o).progress = s.progress := rfl
@[simp] theorem State.gotoOp_lastcmd (o : Nat) : (s.gotoOp o).lastcmd = s.lastcmd := rfl
@[simp] theorem State.gotoOp_pins (o : Nat) : (s.gotoOp o).pins = s.pins := rfl
@[simp] theorem State.gotoOp_cfg (o : Nat) : (s.gotoOp o).cfg = s.cfg := rfl
@[simp] theorem State.gotoOp_region (o : Nat) : (s.gotoOp o).region = s.region := rfl
@[simp] theorem State.gotoOp_icRef (o : Nat) : (s.gotoOp o).icRef = s.icRef := rfl
@[simp] theorem State.gotoOp_res (o : Nat) : (s.gotoOp o).res = s.res := rfl
@[simp] theorem State.gotoOp_seq (o : Nat) : (s.gotoOp o).seq = { s.seq with op := o } := rfl
@[simp] theorem State.gotoOp_work (o : Nat) : (s.gotoOp o).work = s.work := rfl
@[simp] theorem State.gotoOp_trace (o : Nat) : (s.gotoOp o).trace = s.trace := rfl
@[simp] theorem State.gotoOp_answers (o : Nat) : (s.gotoOp o).answers = s.answers := rfl
@[simp] theorem State.gotoOp_answered (o : Nat) : (s.gotoOp o).answered = s.answered := rfl
@[simp] theorem State.gotoOp_draws (o : Nat) : (s.gotoOp o).draws = s.draws := rfl
@[simp] theorem State.gotoOp_host (o : Nat) : (s.gotoOp o).host = s.host := rfl
@[simp] theorem State.gotoOp_replies (o : Nat) : (s.gotoOp o).replies = s.replies := rfl

/-! ### `State.gotoPhase` -/

@[simp] theorem State.gotoPhase_mode (p k : Nat) : (s.gotoPhase p k).mode = s.mode := rfl
@[simp] theorem State.gotoPhase_busy (p k : Nat) : (s.gotoPhase p k).busy = s.busy := rfl
@[simp] theorem State.gotoPhase_done (p k : Nat) : (s.gotoPhase p k).done = s.done := rfl
@[simp] theorem State.gotoPhase_err (p k : Nat) : (s.gotoPhase p k).err = s.err := rfl
@[simp] theorem State.gotoPhase_fatal (p k : Nat) : (s.gotoPhase p k).fatal = s.fatal := rfl
@[simp] theorem State.gotoPhase_cancelReq (p k : Nat) : (s.gotoPhase p k).cancelReq = s.cancelReq := rfl
@[simp] theorem State.gotoPhase_cancelled (p k : Nat) : (s.gotoPhase p k).cancelled = s.cancelled := rfl
@[simp] theorem State.gotoPhase_progress (p k : Nat) : (s.gotoPhase p k).progress = s.progress := rfl
@[simp] theorem State.gotoPhase_lastcmd (p k : Nat) : (s.gotoPhase p k).lastcmd = s.lastcmd := rfl
@[simp] theorem State.gotoPhase_pins (p k : Nat) : (s.gotoPhase p k).pins = s.pins := rfl
@[simp] theorem State.gotoPhase_cfg (p k : Nat) : (s.gotoPhase p k).cfg = s.cfg := rfl
@[simp] theorem State.gotoPhase_region (p k : Nat) : (s.gotoPhase p k).region = s.region := rfl
@[simp] theorem State.gotoPhase_icRef (p k : Nat) : (s.gotoPhase p k).icRef = s.icRef := rfl
@[simp] theorem State.gotoPhase_res (p k : Nat) : (s.gotoPhase p k).res = s.res := rfl
@[simp] theorem State.gotoPhase_seq (p k : Nat) : (s.gotoPhase p k).seq = { s.seq with phase := p, posk := k, op := 0, sample := 0 } :=
  rfl
@[simp] theorem State.gotoPhase_work (p k : Nat) : (s.gotoPhase p k).work = s.work := rfl
@[simp] theorem State.gotoPhase_trace (p k : Nat) : (s.gotoPhase p k).trace = s.trace := rfl
@[simp] theorem State.gotoPhase_answers (p k : Nat) : (s.gotoPhase p k).answers = s.answers := rfl
@[simp] theorem State.gotoPhase_answered (p k : Nat) : (s.gotoPhase p k).answered = s.answered := rfl
@[simp] theorem State.gotoPhase_draws (p k : Nat) : (s.gotoPhase p k).draws = s.draws := rfl
@[simp] theorem State.gotoPhase_host (p k : Nat) : (s.gotoPhase p k).host = s.host := rfl
@[simp] theorem State.gotoPhase_replies (p k : Nat) : (s.gotoPhase p k).replies = s.replies := rfl

/-! ### `State.gotoPos` -/

@[simp] theorem State.gotoPos_mode (k o : Nat) : (s.gotoPos k o).mode = s.mode := rfl
@[simp] theorem State.gotoPos_busy (k o : Nat) : (s.gotoPos k o).busy = s.busy := rfl
@[simp] theorem State.gotoPos_done (k o : Nat) : (s.gotoPos k o).done = s.done := rfl
@[simp] theorem State.gotoPos_err (k o : Nat) : (s.gotoPos k o).err = s.err := rfl
@[simp] theorem State.gotoPos_fatal (k o : Nat) : (s.gotoPos k o).fatal = s.fatal := rfl
@[simp] theorem State.gotoPos_cancelReq (k o : Nat) : (s.gotoPos k o).cancelReq = s.cancelReq := rfl
@[simp] theorem State.gotoPos_cancelled (k o : Nat) : (s.gotoPos k o).cancelled = s.cancelled := rfl
@[simp] theorem State.gotoPos_progress (k o : Nat) : (s.gotoPos k o).progress = s.progress := rfl
@[simp] theorem State.gotoPos_lastcmd (k o : Nat) : (s.gotoPos k o).lastcmd = s.lastcmd := rfl
@[simp] theorem State.gotoPos_pins (k o : Nat) : (s.gotoPos k o).pins = s.pins := rfl
@[simp] theorem State.gotoPos_cfg (k o : Nat) : (s.gotoPos k o).cfg = s.cfg := rfl
@[simp] theorem State.gotoPos_region (k o : Nat) : (s.gotoPos k o).region = s.region := rfl
@[simp] theorem State.gotoPos_icRef (k o : Nat) : (s.gotoPos k o).icRef = s.icRef := rfl
@[simp] theorem State.gotoPos_res (k o : Nat) : (s.gotoPos k o).res = s.res := rfl
@[simp] theorem State.gotoPos_seq (k o : Nat) : (s.gotoPos k o).seq = { s.seq with posk := k, op := o, sample := 0 } :=
  rfl
@[simp] theorem State.gotoPos_work (k o : Nat) : (s.gotoPos k o).work = s.work := rfl
@[simp] theorem State.gotoPos_trace (k o : Nat) : (s.gotoPos k o).trace = s.trace := rfl
@[simp] theorem State.gotoPos_answers (k o : Nat) : (s.gotoPos k o).answers = s.answers := rfl
@[simp] theorem State.gotoPos_answered (k o : Nat) : (s.gotoPos k o).answered = s.answered := rfl
@[simp] theorem State.gotoPos_draws (k o : Nat) : (s.gotoPos k o).draws = s.draws := rfl
@[simp] theorem State.gotoPos_host (k o : Nat) : (s.gotoPos k o).host = s.host := rfl
@[simp] theorem State.gotoPos_replies (k o : Nat) : (s.gotoPos k o).replies = s.replies := rfl

/-! ### `refuse` -/

@[simp] theorem refuse_mode (c : ErrCode) : (refuse c s).mode = s.mode := rfl
@[simp] theorem refuse_busy (c : ErrCode) : (refuse c s).busy = s.busy := rfl
@[simp] theorem refuse_done (c : ErrCode) : (refuse c s).done = s.done := rfl
@[simp] theorem refuse_err (c : ErrCode) : (refuse c s).err = c := rfl
@[simp] theorem refuse_fatal (c : ErrCode) : (refuse c s).fatal = s.fatal := rfl
@[simp] theorem refuse_cancelReq (c : ErrCode) : (refuse c s).cancelReq = s.cancelReq := rfl
@[simp] theorem refuse_cancelled (c : ErrCode) : (refuse c s).cancelled = s.cancelled := rfl
@[simp] theorem refuse_progress (c : ErrCode) : (refuse c s).progress = s.progress := rfl
@[simp] theorem refuse_lastcmd (c : ErrCode) : (refuse c s).lastcmd = s.lastcmd := rfl
@[simp] theorem refuse_pins (c : ErrCode) : (refuse c s).pins = s.pins := rfl
@[simp] theorem refuse_cfg (c : ErrCode) : (refuse c s).cfg = s.cfg := rfl
@[simp] theorem refuse_region (c : ErrCode) : (refuse c s).region = s.region := rfl
@[simp] theorem refuse_icRef (c : ErrCode) : (refuse c s).icRef = s.icRef := rfl
@[simp] theorem refuse_res (c : ErrCode) : (refuse c s).res = s.res := rfl
@[simp] theorem refuse_seq (c : ErrCode) : (refuse c s).seq = s.seq := rfl
@[simp] theorem refuse_work (c : ErrCode) : (refuse c s).work = s.work := rfl
@[simp] theorem refuse_trace (c : ErrCode) : (refuse c s).trace = s.trace := rfl
@[simp] theorem refuse_answers (c : ErrCode) : (refuse c s).answers = s.answers := rfl
@[simp] theorem refuse_answered (c : ErrCode) : (refuse c s).answered = s.answered := rfl
@[simp] theorem refuse_draws (c : ErrCode) : (refuse c s).draws = s.draws := rfl
@[simp] theorem refuse_host (c : ErrCode) : (refuse c s).host = s.host := rfl
@[simp] theorem refuse_replies (c : ErrCode) : (refuse c s).replies = s.replies := rfl

/-! ### `raiseFatal` -/

@[simp] theorem raiseFatal_mode (c : FatalCause) : (raiseFatal c s).mode = .halted := rfl
@[simp] theorem raiseFatal_busy (c : FatalCause) : (raiseFatal c s).busy = s.busy := rfl
@[simp] theorem raiseFatal_done (c : FatalCause) : (raiseFatal c s).done = s.done := rfl
@[simp] theorem raiseFatal_err (c : FatalCause) : (raiseFatal c s).err = s.err := rfl
@[simp] theorem raiseFatal_fatal (c : FatalCause) : (raiseFatal c s).fatal = c := rfl
@[simp] theorem raiseFatal_cancelReq (c : FatalCause) : (raiseFatal c s).cancelReq = s.cancelReq := rfl
@[simp] theorem raiseFatal_cancelled (c : FatalCause) : (raiseFatal c s).cancelled = s.cancelled := rfl
@[simp] theorem raiseFatal_progress (c : FatalCause) : (raiseFatal c s).progress = s.progress := rfl
@[simp] theorem raiseFatal_lastcmd (c : FatalCause) : (raiseFatal c s).lastcmd = s.lastcmd := rfl
@[simp] theorem raiseFatal_pins (c : FatalCause) : (raiseFatal c s).pins = s.pins := rfl
@[simp] theorem raiseFatal_cfg (c : FatalCause) : (raiseFatal c s).cfg = s.cfg := rfl
@[simp] theorem raiseFatal_region (c : FatalCause) : (raiseFatal c s).region = s.region := rfl
@[simp] theorem raiseFatal_icRef (c : FatalCause) : (raiseFatal c s).icRef = s.icRef := rfl
@[simp] theorem raiseFatal_res (c : FatalCause) : (raiseFatal c s).res = s.res := rfl
@[simp] theorem raiseFatal_seq (c : FatalCause) : (raiseFatal c s).seq = s.seq := rfl
@[simp] theorem raiseFatal_work (c : FatalCause) : (raiseFatal c s).work = s.work := rfl
@[simp] theorem raiseFatal_trace (c : FatalCause) : (raiseFatal c s).trace = s.trace := rfl
@[simp] theorem raiseFatal_answers (c : FatalCause) : (raiseFatal c s).answers = s.answers := rfl
@[simp] theorem raiseFatal_answered (c : FatalCause) : (raiseFatal c s).answered = s.answered := rfl
@[simp] theorem raiseFatal_draws (c : FatalCause) : (raiseFatal c s).draws = s.draws := rfl
@[simp] theorem raiseFatal_host (c : FatalCause) : (raiseFatal c s).host = s.host := rfl
@[simp] theorem raiseFatal_replies (c : FatalCause) : (raiseFatal c s).replies = s.replies := rfl

/-! ### `accept` -/

@[simp] theorem accept_mode (w : Word64) : (accept w s).mode = s.mode := rfl
@[simp] theorem accept_busy (w : Word64) : (accept w s).busy = true := rfl
@[simp] theorem accept_done (w : Word64) : (accept w s).done = false := rfl
@[simp] theorem accept_err (w : Word64) : (accept w s).err = .none := rfl
@[simp] theorem accept_fatal (w : Word64) : (accept w s).fatal = s.fatal := rfl
@[simp] theorem accept_cancelReq (w : Word64) : (accept w s).cancelReq = false := rfl
@[simp] theorem accept_cancelled (w : Word64) : (accept w s).cancelled = false := rfl
@[simp] theorem accept_progress (w : Word64) : (accept w s).progress = 0#7 := rfl
@[simp] theorem accept_lastcmd (w : Word64) : (accept w s).lastcmd = w := rfl
@[simp] theorem accept_pins (w : Word64) : (accept w s).pins = s.pins := rfl
@[simp] theorem accept_cfg (w : Word64) : (accept w s).cfg = s.cfg := rfl
@[simp] theorem accept_region (w : Word64) : (accept w s).region = s.region := rfl
@[simp] theorem accept_icRef (w : Word64) : (accept w s).icRef = s.icRef := rfl
@[simp] theorem accept_res (w : Word64) : (accept w s).res = s.res := rfl
@[simp] theorem accept_seq (w : Word64) : (accept w s).seq = .start := rfl
@[simp] theorem accept_work (w : Word64) : (accept w s).work = s.work := rfl
@[simp] theorem accept_trace (w : Word64) : (accept w s).trace = s.trace := rfl
@[simp] theorem accept_answers (w : Word64) : (accept w s).answers = s.answers := rfl
@[simp] theorem accept_answered (w : Word64) : (accept w s).answered = s.answered := rfl
@[simp] theorem accept_draws (w : Word64) : (accept w s).draws = s.draws := rfl
@[simp] theorem accept_host (w : Word64) : (accept w s).host = s.host := rfl
@[simp] theorem accept_replies (w : Word64) : (accept w s).replies = s.replies := rfl

/-! ### `complete` -/

@[simp] theorem complete_mode : (complete s).mode = s.mode := rfl
@[simp] theorem complete_busy : (complete s).busy = false := rfl
@[simp] theorem complete_done : (complete s).done = true := rfl
@[simp] theorem complete_err : (complete s).err = s.err := rfl
@[simp] theorem complete_fatal : (complete s).fatal = s.fatal := rfl
@[simp] theorem complete_cancelReq : (complete s).cancelReq = false := rfl
@[simp] theorem complete_cancelled : (complete s).cancelled = s.cancelled := rfl
@[simp] theorem complete_progress : (complete s).progress = 100#7 := rfl
@[simp] theorem complete_lastcmd : (complete s).lastcmd = s.lastcmd := rfl
@[simp] theorem complete_pins : (complete s).pins = s.pins := rfl
@[simp] theorem complete_cfg : (complete s).cfg = s.cfg := rfl
@[simp] theorem complete_region : (complete s).region = s.region := rfl
@[simp] theorem complete_icRef : (complete s).icRef = s.icRef := rfl
@[simp] theorem complete_res : (complete s).res = s.res := rfl
@[simp] theorem complete_seq : (complete s).seq = s.seq := rfl
@[simp] theorem complete_work : (complete s).work = s.work := rfl
@[simp] theorem complete_trace : (complete s).trace = s.trace := rfl
@[simp] theorem complete_answers : (complete s).answers = s.answers := rfl
@[simp] theorem complete_answered : (complete s).answered = s.answered := rfl
@[simp] theorem complete_draws : (complete s).draws = s.draws := rfl
@[simp] theorem complete_host : (complete s).host = s.host := rfl
@[simp] theorem complete_replies : (complete s).replies = s.replies := rfl

/-! ### `completeCancelled` -/

@[simp] theorem completeCancelled_mode : (completeCancelled s).mode = s.mode := rfl
@[simp] theorem completeCancelled_busy : (completeCancelled s).busy = false := rfl
@[simp] theorem completeCancelled_done : (completeCancelled s).done = true := rfl
@[simp] theorem completeCancelled_err : (completeCancelled s).err = s.err := rfl
@[simp] theorem completeCancelled_fatal : (completeCancelled s).fatal = s.fatal := rfl
@[simp] theorem completeCancelled_cancelReq : (completeCancelled s).cancelReq = false := rfl
@[simp] theorem completeCancelled_cancelled : (completeCancelled s).cancelled = true := rfl
@[simp] theorem completeCancelled_progress : (completeCancelled s).progress = s.progress := rfl
@[simp] theorem completeCancelled_lastcmd : (completeCancelled s).lastcmd = s.lastcmd := rfl
@[simp] theorem completeCancelled_pins : (completeCancelled s).pins = s.pins := rfl
@[simp] theorem completeCancelled_cfg : (completeCancelled s).cfg = s.cfg := rfl
@[simp] theorem completeCancelled_region : (completeCancelled s).region = s.region := rfl
@[simp] theorem completeCancelled_icRef : (completeCancelled s).icRef = s.icRef := rfl
@[simp] theorem completeCancelled_res : (completeCancelled s).res = s.res := rfl
@[simp] theorem completeCancelled_seq : (completeCancelled s).seq = s.seq := rfl
@[simp] theorem completeCancelled_work : (completeCancelled s).work = s.work := rfl
@[simp] theorem completeCancelled_trace : (completeCancelled s).trace = s.trace := rfl
@[simp] theorem completeCancelled_answers : (completeCancelled s).answers = s.answers := rfl
@[simp] theorem completeCancelled_answered : (completeCancelled s).answered = s.answered := rfl
@[simp] theorem completeCancelled_draws : (completeCancelled s).draws = s.draws := rfl
@[simp] theorem completeCancelled_host : (completeCancelled s).host = s.host := rfl
@[simp] theorem completeCancelled_replies : (completeCancelled s).replies = s.replies := rfl

/-! ### The next answer (R96) depends on the answers alone -/

@[simp] theorem State.setPins_answer (p : Pins) : (s.setPins p).answer = s.answer := rfl
@[simp] theorem State.setWork_answer (w : Work) : (s.setWork w).answer = s.answer := rfl
@[simp] theorem State.setRes_answer (r : Results) : (s.setRes r).answer = s.answer := rfl
@[simp] theorem State.setSeq_answer (q : Seq) : (s.setSeq q).answer = s.answer := rfl
@[simp] theorem State.setMode_answer (m : Mode) : (s.setMode m).answer = s.answer := rfl
@[simp] theorem State.setProgress_answer (v : BitVec 7) : (s.setProgress v).answer = s.answer := rfl
@[simp] theorem State.emit_answer (e : Event) : (s.emit e).answer = s.answer := rfl
@[simp] theorem State.gotoOp_answer (o : Nat) : (s.gotoOp o).answer = s.answer := rfl
@[simp] theorem State.gotoPhase_answer (p k : Nat) : (s.gotoPhase p k).answer = s.answer := rfl
@[simp] theorem State.gotoPos_answer (k o : Nat) : (s.gotoPos k o).answer = s.answer := rfl
@[simp] theorem refuse_answer (c : ErrCode) : (refuse c s).answer = s.answer := rfl
@[simp] theorem raiseFatal_answer (c : FatalCause) : (raiseFatal c s).answer = s.answer := rfl
@[simp] theorem accept_answer (w : Word64) : (accept w s).answer = s.answer := rfl
@[simp] theorem complete_answer : (complete s).answer = s.answer := rfl
@[simp] theorem completeCancelled_answer : (completeCancelled s).answer = s.answer := rfl

end Sys2Proof.Machine
end

