-- ==== Sys2Proof/Laws/Ops.lean ====
section
/-! SUPPORT. What each shared operation does, once: the bus operations (R81 to R88) as one record update
each, the pins they reach, the acceptance of a command (R127) and the frame every command stands in. -/

namespace Sys2Proof.Machine

/-! ### The bus operations: pins, `RDV`, answers, trace; nothing else (R85) -/

theorem dataDir_eq (d : Dir) (s : State) :
    dataDir d s = { s with pins := { s.pins with dataDir := d }, trace := .dataDir d :: s.trace } := rfl

theorem dataWrite_eq (v : Byte) (s : State) :
    dataWrite v s = { s with pins := { s.pins with dataOut := v }, trace := .dataWrite v :: s.trace } := rfl

theorem addrDir_eq (d : Dir) (s : State) :
    addrDir d s = { s with pins := { s.pins with addrDir := d }, trace := .addrDir d :: s.trace } := rfl

theorem addrWrite_eq (v : Addr) (s : State) :
    addrWrite v s = { s with pins := { s.pins with addrOut := v }, trace := .addrWrite v :: s.trace } := rfl

theorem ctlDir_eq (g : Sig) (d : Dir) (s : State) :
    ctlDir g d s = { s with
      pins := { s.pins with ctlDir := s.pins.ctlDir.set g.idx.val d g.idx.isLt }
      trace := .ctlDir g d :: s.trace } := rfl

theorem ctlWrite_eq (g : Sig) (b : Bool) (s : State) :
    ctlWrite g b s = { s with
      pins := { s.pins with ctlOut := s.pins.ctlOut.set g.idx.val b g.idx.isLt }
      trace := .ctlWrite g b :: s.trace } := rfl

theorem dataRead_eq (s : State) :
    dataRead s = { s with
      work := { s.work with rdv := (s.answer.setWidth 8).setWidth 16 }
      answers := s.answers.tail, answered := s.answered + 1
      trace := .dataRead (s.answer.setWidth 8) :: s.trace } := rfl

theorem addrRead_eq (s : State) :
    addrRead s = { s with
      work := { s.work with rdv := s.answer }
      answers := s.answers.tail, answered := s.answered + 1
      trace := .addrRead s.answer :: s.trace } := rfl

theorem ctlRead_eq (g : Sig) (s : State) :
    ctlRead g s = { s with
      work := { s.work with rdv := (BitVec.ofBool (s.answer.getLsbD 0)).setWidth 16 }
      answers := s.answers.tail, answered := s.answered + 1
      trace := .ctlRead g (s.answer.getLsbD 0) :: s.trace } := rfl

theorem memRead_eq (a : Addr) (s : State) :
    memRead a s = { s with
      work := { s.work with rdv := (s.answer.setWidth 8).setWidth 16 }
      answers := s.answers.tail, answered := s.answered + 1
      trace := .memRead a (s.answer.setWidth 8) :: s.trace } := rfl

theorem memWrite_eq (a : Addr) (v : Byte) (s : State) :
    memWrite a v s = { s with trace := .memWrite a v :: s.trace } := rfl

theorem delay_eq (n : Nat) (s : State) : delay n s = { s with trace := .delay n :: s.trace } := rfl

theorem delayMs_eq (n : Nat) (s : State) : delayMs n s = { s with trace := .delayMs n :: s.trace } := rfl

theorem settle_eq (s : State) : settle s = { s with trace := .delay s.cfg.settleDelay.toNat :: s.trace } := rfl

theorem confirmWait_eq (s : State) :
    confirmWait s = { s with trace := .delay s.cfg.confirmDelay.toNat :: s.trace } := rfl

/-- The level a `CtlRead` returned. -/
@[simp] theorem readTrue_ctlRead (g : Sig) (s : State) : (ctlRead g s).readTrue = s.answer.getLsbD 0 := by
  change ((BitVec.ofBool (s.answer.getLsbD 0)).setWidth 16).getLsbD 0 = s.answer.getLsbD 0
  cases s.answer.getLsbD 0 <;> decide

/-! ### The confirmation loop (R14) -/

theorem startConfirm_eq (s : State) :
    startConfirm s = { s with work := { s.work with hits := 0#16 }, seq := { s.seq with sample := 0 } } := rfl

theorem countSample_eq (hit : Bool) (s : State) :
    countSample hit s = { s with
      work := { s.work with hits := if hit then s.work.hits + 1#16 else s.work.hits }
      seq := { s.seq with sample := s.seq.sample + 1 } } := rfl

theorem sampling_iff (s : State) : s.sampling = true ↔ s.seq.sample < s.cfg.confirmLoops.toNat := by
  simp [State.sampling]

theorem confirmed_iff (s : State) (pct : BitVec 7) :
    s.confirmed pct = true ↔ pct.toNat * s.cfg.confirmLoops.toNat ≤ s.work.hits.toNat * 100 := by
  simp [State.confirmed]

/-! ### Pins: a control signal's update is seen at that signal alone -/

theorem Sig.idx_injective {g h : Sig} (e : g.idx = h.idx) : g = h := by
  cases g <;> cases h <;> first | rfl | (exact absurd e (by decide))

theorem vector_get_set {α : Type} (v : Vector α 12) (i j : Fin 12) (x : α) :
    (v.set i.val x i.isLt).get j = if i = j then x else v.get j := by
  simp [Vector.get_eq_getElem, Vector.getElem_set, Fin.ext_iff]

theorem dirOf_set (p : Pins) (g h : Sig) (d : Dir) :
    ({ p with ctlDir := p.ctlDir.set g.idx.val d g.idx.isLt } : Pins).dirOf h = if g = h then d else p.dirOf h := by
  unfold Pins.dirOf
  rw [vector_get_set]
  by_cases e : g = h
  · simp [e]
  · simp [e, mt Sig.idx_injective e]

theorem outOf_set (p : Pins) (g h : Sig) (b : Bool) :
    ({ p with ctlOut := p.ctlOut.set g.idx.val b g.idx.isLt } : Pins).outOf h = if g = h then b else p.outOf h := by
  unfold Pins.outOf
  rw [vector_get_set]
  by_cases e : g = h
  · simp [e]
  · simp [e, mt Sig.idx_injective e]

/-- An entry of a vector of eight made from its entries. -/
@[simp] theorem vec8_get {α : Type} (f : Fin 8 → α) (i : Fin 8) : (vec8 f).get i = f i := by
  match i with
  | 0 | 1 | 2 | 3 | 4 | 5 | 6 | 7 => rfl

/-! ### Acceptance (R127 lines 5 to 8) -/

/-- What presenting a command to an idle engine comes to: accepted, or refused with the code of the first
line that fails. -/
theorem present_cases (i : Instr) (s : State) :
    (modeAllows i s.mode = true ∧ configLegal i s.cfg = true ∧ (usesRegion i = true → s.region.legal = true) ∧
      present i s = accept (encode i) s) ∨
    ∃ c, (c = .badState ∨ c = .badConfig ∨ c = .badRegion) ∧ present i s = refuse c s := by
  unfold present
  split
  · exact .inr ⟨_, .inl rfl, rfl⟩
  · split
    · exact .inr ⟨_, .inr (.inl rfl), rfl⟩
    · split
      · exact .inr ⟨_, .inr (.inr rfl), rfl⟩
      · left; simp_all

/-! ### One engine step of a command -/

/-- What the engine's next step with a command comes to: it presents it, if idle; else it is one step of the
body, with what that step entails. `HALTED` has no next state. -/
theorem command_next {i : Instr} {body : State → BodyStep} {s t : State}
    (h : command i body s = .next t) :
    s.mode ≠ .halted ∧
    ((s.busy = false ∧ t = present i s) ∨ (s.busy = true ∧ t = finish (body s))) := by
  unfold command at h
  split at h
  · cases h
  · split at h <;> cases h <;> simp_all

theorem command_running {i : Instr} {body : State → BodyStep} {s : State}
    (hb : s.busy = true) (hm : s.mode ≠ .halted) : command i body s = .next (finish (body s)) := by
  simp [command, hb, hm]

theorem command_idle {i : Instr} {body : State → BodyStep} {s : State}
    (hb : s.busy = false) (hm : s.mode ≠ .halted) : command i body s = .next (present i s) := by
  simp [command, hb, hm]

theorem command_halted {i : Instr} {body : State → BodyStep} {s : State} (hm : s.mode = .halted) :
    command i body s = .fault .halted := by
  simp [command, hm]

@[simp] theorem finish_more (s : State) : finish (.more s) = s := rfl
@[simp] theorem finish_ended (s : State) : finish (.ended s) = complete s := rfl
@[simp] theorem finish_cancelled (s : State) : finish (.cancelled s) = completeCancelled s := rfl
@[simp] theorem finish_fatal (s : State) : finish (.fatal s) = s := rfl

end Sys2Proof.Machine
end

