-- ==== Sys2Proof/Laws/Exec.lean ====
section
/-! SUPPORT. `exec` and `step`, once: every command is its body in the same frame, and a step of the machine is
one host action or one engine step. -/

namespace Sys2Proof.Machine
open Sys2Proof

/-- The body of a command, run stand-alone. -/
def bodyOf : Instr → State → BodyStep
  | .nop => nopBody
  | .activate => activateBody
  | .deactivate => deactivateBody
  | .clear => clearBody
  | .verifyData => verifyDataBody true
  | .verifyAddr => verifyAddrBody true
  | .verifyCtrl => verifyCtrlBody true
  | .sample => sampleBody
  | .crosstalk => crosstalkBody true
  | .repwrite p t => repwriteBody true p t
  | .repread p => repreadBody true p
  | .checker t => checkerBody true t
  | .walk1 => walk1Body true
  | .walk0 => walk0Body true
  | .marchc => marchcBody true
  | .marchss => marchssBody true
  | .marchla => marchlaBody true
  | .movinv p => movinvBody true p
  | .retention p d n => retentionBody true p d n
  | .readdestr p n => readdestrBody true p n
  | .addruniq p => addruniqBody true p
  | .suite => suiteBody true
  | .fullpass => fullpassBody

theorem exec_eq_command (i : Instr) (s : State) : exec i s = command i (bodyOf i) s := by
  cases i <;> rfl

theorem exec_running {i : Instr} {s : State} (hb : s.busy = true) (hm : s.mode ≠ .halted) :
    exec i s = .next (finish (bodyOf i s)) := by
  rw [exec_eq_command, command_running hb hm]

theorem exec_idle {i : Instr} {s : State} (hb : s.busy = false) (hm : s.mode ≠ .halted) :
    exec i s = .next (present i s) := by
  rw [exec_eq_command, command_idle hb hm]

theorem exec_halted {i : Instr} {s : State} (hm : s.mode = .halted) : exec i s = .fault .halted := by
  rw [exec_eq_command, command_halted hm]

/-- What `exec` can answer with. -/
theorem exec_next {i : Instr} {s t : State} (h : exec i s = .next t) :
    s.mode ≠ .halted ∧
    ((s.busy = false ∧ t = present i s) ∨ (s.busy = true ∧ t = finish (bodyOf i s))) := by
  rw [exec_eq_command] at h
  exact command_next h

theorem exec_not_refused (i : Instr) (s : State) (r : Refusal) : exec i s ≠ .refused r := by
  rw [exec_eq_command]
  unfold command
  split
  · simp
  · split <;> simp

/-- What an engine step can answer with: it waits, or it is a step of the command in `LASTCMD`. -/
theorem engineStep_next {s t : State} (h : engineStep s = .next t) :
    s.mode ≠ .halted ∧
    ((s.busy = false ∧ t = s) ∨ (s.busy = true ∧ ∃ i, decode s.lastcmd = .ok i ∧ exec i s = .next t)) := by
  unfold engineStep at h
  split at h
  · cases h
  · split at h
    · split at h
      · exact ⟨by assumption, .inr ⟨by assumption, _, by assumption, h⟩⟩
      · cases h
    · cases h; simp_all

/-- What a step of the machine can answer with: the host's turn, or the engine's. `u` is the state with the host's
action taken off its list. -/
theorem step_next {s t : State} (h : step s = .next t) :
    (s.host = [] ∧ engineStep s = .next t) ∨
    ∃ a rest, s.host = a :: rest ∧
      ((a = .idle ∧ idleTurn { s with host := rest } = .next t) ∨
       (∃ index v, a = .write index v ∧ writeStep index v { s with host := rest } = .next t) ∨
       (∃ index, a = .read index ∧ t = hostRead index { s with host := rest }) ∨
       (a = .reset ∧ t = resetEngine { s with host := rest })) := by
  unfold step at h
  split at h
  · exact .inl ⟨by assumption, h⟩
  · exact .inr ⟨_, _, by assumption, .inl ⟨rfl, h⟩⟩
  · exact .inr ⟨_, _, by assumption, .inr (.inl ⟨_, _, rfl, h⟩)⟩
  · cases h; exact .inr ⟨_, _, by assumption, .inr (.inr (.inl ⟨_, rfl, rfl⟩))⟩
  · cases h; exact .inr ⟨_, _, by assumption, .inr (.inr (.inr ⟨rfl, rfl⟩))⟩

/-- What a host write can answer with: stored or refused at once, or a command presented. -/
theorem writeStep_next {index : Nat} {v : Word64} {s t : State} (h : writeStep index v s = .next t) :
    hostWrite index v s = .now t ∨ ∃ i, hostWrite index v s = .present i ∧ exec i s = .next t := by
  unfold writeStep at h
  split at h
  · cases h; exact .inl (by assumption)
  · exact .inr ⟨_, by assumption, h⟩

/-- A command is presented only to an idle engine, and it is what the word decodes to. -/
theorem hostWrite_present {index : Nat} {v : Word64} {s : State} {i : Instr}
    (h : hostWrite index v s = .present i) :
    s.mode ≠ .halted ∧ s.busy = false ∧ decode v = .ok i := by
  unfold hostWrite at h
  split at h
  · cases h
  · split at h
    · cases h
    · unfold idleWrite at h
      split at h
      · cases h
      · unfold cmdWrite at h
        split at h <;> simp_all
      · split at h <;> cases h

end Sys2Proof.Machine
end

