-- ==== Sys2Proof/Laws/MemScan.lean ====
section
/-! SUPPORT. The scan machinery, once: what one step of a memory algorithm can do (R232 to R237), and that the
working registers give every value function the byte it has at the cell's address (R234). -/

namespace Sys2Proof.Machine

/-- R234: the byte computed from the working registers, once they are loaded, is the value function's byte. -/
theorem value_load (v : CellVal) (w : Work) : v.value (v.load w) = v.at w.a := by
  cases v <;> rfl

@[simp] theorem load_a (v : CellVal) (w : Work) : (v.load w).a = w.a := by cases v <;> rfl
@[simp] theorem load_rdcnt (v : CellVal) (w : Work) : (v.load w).rdcnt = w.rdcnt := by cases v <;> rfl

/-- The registers a value function loads: `PAT` or `BITIX`, no other. -/
theorem load_eq (v : CellVal) (w : Work) :
    v.load w = { w with pat := (v.load w).pat, bitix := (v.load w).bitix } := by
  cases v <;> rfl

/-- R233 `w(val)`. -/
theorem cellWrite_eq (v : CellVal) (s : State) :
    cellWrite v s = { s with
      work := v.load { s.work with a := s.region.addr s.seq.posk }
      trace := .memWrite (s.region.addr s.seq.posk) (v.at (s.region.addr s.seq.posk)) :: s.trace } := by
  simp only [cellWrite, loadCell, loadAddr, memWrite_eq, State.setWork, value_load, load_a]

/-- R233 `rd`. -/
theorem cellReadDiscard_eq (s : State) :
    cellReadDiscard s = { s with
      work := { s.work with a := s.region.addr s.seq.posk, rdv := (s.answer.setWidth 8).setWidth 16 }
      answers := s.answers.tail, answered := s.answered + 1
      trace := .memRead (s.region.addr s.seq.posk) (s.answer.setWidth 8) :: s.trace } := by
  simp only [cellReadDiscard, loadAddr, memRead_eq, State.setWork_answer]
  rfl

/-- R233: a compared read, not yet counted. -/
theorem cellFetch_eq (v : CellVal) (s : State) :
    cellFetch v s = { s with
      work := { v.load { s.work with a := s.region.addr s.seq.posk } with
        exp := v.at (s.region.addr s.seq.posk), rdv := (s.answer.setWidth 8).setWidth 16 }
      answers := s.answers.tail, answered := s.answered + 1
      trace := .memRead (s.region.addr s.seq.posk) (s.answer.setWidth 8) :: s.trace } := by
  simp only [cellFetch, loadExpected, loadCell, loadAddr, memRead_eq, State.setWork,
    value_load, load_a]
  rfl

theorem accumulate_eq (s : State) :
    accumulate s = { s with
      res := { s.res with tr := s.res.tr.accumulate s.work.exp (s.work.rdv.setWidth 8) } } := rfl

/-- R94, R232: where the next operation is. -/
theorem nextOp_eq (d : PassDir) (ops : List CellOp) (s : State) :
    nextOp d ops s = { s with
      seq := if s.seq.op + 1 < ops.length then { s.seq with op := s.seq.op + 1, sample := 0 }
        else { s.seq with posk := d.next s.region.length.toNat s.seq.posk, op := 0, sample := 0 } } := by
  unfold nextOp
  split <;> rfl

/-- R50: the next iteration of a repeated read. -/
theorem readAgain_eq (s : State) :
    readAgain s = { s with seq := { s.seq with sample := s.seq.sample + 1 } } := rfl

/-- R250, R312: `RDCNT <- RDCNT + 1`. -/
theorem countRead_eq (s : State) :
    countRead s = { s with work := { s.work with rdcnt := s.work.rdcnt + 1#8 } } := rfl

/-- R250: a turn of `rstop` begins with `A` at the cell, and with `RDCNT` at 0 where the reads of a cell begin. -/
theorem rstopBegin_eq (s : State) :
    rstopBegin s = { s with work := { s.work with
      a := s.region.addr s.seq.posk, rdcnt := if s.seq.sample = 0 then 0#8 else s.work.rdcnt } } := by
  unfold rstopBegin
  split <;> rfl

/-- R250: what one turn of `rstop` can do: leave the cell with its reads done, leave it at a mismatch, which is
accumulated, or go on to the next read of it; a read that is made is counted in `RDCNT`. -/
theorem rstopTurn_cases (d : PassDir) (ops : List CellOp) (v : CellVal) (n : Nat) (s : State) :
    (n ≤ (rstopBegin s).work.rdcnt.toNat ∧ rstopTurn d ops v n s = nextOp d ops (rstopBegin s)) ∨
    ((rstopBegin s).work.rdcnt.toNat < n ∧ (countRead (cellFetch v (rstopBegin s))).mismatch = true ∧
      rstopTurn d ops v n s = nextOp d ops (accumulate (countRead (cellFetch v (rstopBegin s))))) ∨
    ((rstopBegin s).work.rdcnt.toNat < n ∧ (countRead (cellFetch v (rstopBegin s))).mismatch = false ∧
      rstopTurn d ops v n s = readAgain (countRead (cellFetch v (rstopBegin s)))) := by
  unfold rstopTurn
  by_cases h : (rstopBegin s).work.rdcnt.toNat < n
  · cases hm : (countRead (cellFetch v (rstopBegin s))).mismatch
    · exact .inr (.inr ⟨h, rfl, by simp [h, hm]⟩)
    · exact .inr (.inl ⟨h, rfl, by simp [h, hm]⟩)
  · exact .inl ⟨by omega, by simp [h]⟩

/-- R94, R312: a phase begins at its first position; `RDCNT` is written only where the wait begins. -/
theorem enterPhase_eq (phases : List MemPhase) (j : Nat) (s : State) :
    enterPhase phases j s = { s with
      work := { s.work with rdcnt := match phases[j]? with
        | some (.wait _ _) => 0#8
        | _ => s.work.rdcnt }
      seq := { s.seq with
        phase := j + 1, op := 0, sample := 0
        posk := match phases[j]? with
          | some (.pass d _) => d.first s.region.length.toNat
          | _ => 0 } } := by
  unfold enterPhase
  split <;> rename_i h <;> rw [h] <;> rfl

/-- What one step of a memory algorithm can do: the prologue, a step of a pass, a delay of the wait, or the end of
a phase. -/
theorem memBody_cases (top : Bool) (pat : Option Byte) (phases : List MemPhase) (s : State) :
    (s.seq.phase = 0 ∧
      memBody top pat phases s = .more (enterPhase phases 0 (clearTr (loadPattern pat s)))) ∨
    (∃ j, s.seq.phase = j + 1 ∧ phases[j]? = none ∧ memBody top pat phases s = .ended s) ∨
    (∃ j d ops, s.seq.phase = j + 1 ∧ phases[j]? = some (.pass d ops) ∧ s.seq.posk < Config.passEnd ∧
      memBody top pat phases s = .more (passStep d ops s)) ∨
    (∃ j ms n, s.seq.phase = j + 1 ∧ phases[j]? = some (.wait ms n) ∧ s.work.rdcnt.toNat < n ∧
      memBody top pat phases s = .more (waitStep ms s)) ∨
    (∃ j p, s.seq.phase = j + 1 ∧ phases[j]? = some p ∧
      memBody top pat phases s = endPhase top phases (j + 1) s) := by
  unfold memBody
  split
  · exact .inl ⟨by assumption, rfl⟩
  · rename_i j hj
    split
    · exact .inr (.inl ⟨j, hj, by assumption, rfl⟩)
    · split
      · exact .inr (.inr (.inl ⟨j, _, _, hj, by assumption, by assumption, rfl⟩))
      · exact .inr (.inr (.inr (.inr ⟨j, _, hj, by assumption, rfl⟩)))
    · split
      · exact .inr (.inr (.inr (.inl ⟨j, _, _, hj, by assumption, by assumption, rfl⟩)))
      · exact .inr (.inr (.inr (.inr ⟨j, _, hj, by assumption, rfl⟩)))

end Sys2Proof.Machine
end

