-- ==== Sys2Proof/Laws/PerInstr.lean ====
section
/-! SUPPORT. Statements about every command as syntax, one lemma per constructor. -/

namespace Sys2Proof

/-- The bits of a packed word, field by field (R120). -/
theorem packWord_bit (op p : Byte) (t : Bool) (n : Byte) (d : BitVec 16) (k : Nat) :
    (packWord op p t n d).getLsbD k =
      if k < 8 then op.getLsbD k
      else if k < 16 then p.getLsbD (k - 8)
      else if k = 16 then t
      else if k < 24 then false
      else if k < 32 then n.getLsbD (k - 24)
      else if k < 48 then d.getLsbD (k - 32)
      else false := by
  unfold packWord
  change BitVec.getLsbD (w := 16 + 16 + 8 + 7 + 1 + 8 + 8) (0#16 ++ d ++ n ++ 0#7 ++ BitVec.ofBool t ++ p ++ op) k = _
  simp only [BitVec.getLsbD_append]
  by_cases h1 : k < 8
  · simp [h1]
  by_cases h2 : k < 16
  · have : k - 8 < 8 := by omega
    simp [h1, h2, this]
  have g2 : ¬ k - 8 < 8 := by omega
  by_cases h3 : k = 16
  · subst h3; simp
  have g3 : ¬ k - 8 - 8 < 1 := by omega
  by_cases h4 : k < 24
  · have : k - 8 - 8 - 1 < 7 := by omega
    simp [h1, h2, h3, h4, g2, g3, this]
  have g4 : ¬ k - 8 - 8 - 1 < 7 := by omega
  by_cases h5 : k < 32
  · have : k - 8 - 8 - 1 - 7 < 8 := by omega
    have e : k - 8 - 8 - 1 - 7 = k - 24 := by omega
    simp [h1, h2, h3, h4, h5, g2, g3, g4, e]
    intro hh; omega
  have g5 : ¬ k - 8 - 8 - 1 - 7 < 8 := by omega
  by_cases h6 : k < 48
  · have : k - 8 - 8 - 1 - 7 - 8 < 16 := by omega
    have e : k - 8 - 8 - 1 - 7 - 8 = k - 32 := by omega
    simp [h1, h2, h3, h4, h5, h6, g2, g3, g4, g5, e]
    intro hh; omega
  have g6 : ¬ k - 8 - 8 - 1 - 7 - 8 < 16 := by omega
  simp [h1, h2, h3, h4, h5, h6, g2, g3, g4, g5, g6]

/-- The fields of a packed word. -/
theorem packWord_fields (op p : Byte) (t : Bool) (n : Byte) (d : BitVec 16) :
    fieldOp (packWord op p t n d) = op ∧ fieldP (packWord op p t n d) = p ∧
    fieldT (packWord op p t n d) = t ∧ fieldN (packWord op p t n d) = n.toNat ∧
    fieldD (packWord op p t n d) = d.toNat := by
  refine ⟨?_, ?_, ?_, ?_, ?_⟩
  · unfold fieldOp
    apply BitVec.eq_of_getLsbD_eq
    intro k hk
    simp [packWord_bit, hk]
  · unfold fieldP
    apply BitVec.eq_of_getLsbD_eq
    intro k hk
    have h1 : ¬ 8 + k < 8 := by omega
    have h2 : 8 + k < 16 := by omega
    simp [packWord_bit, h1, h2, hk]
  · exact packWord_bit op p t n d 16
  · unfold fieldN
    congr 1
    apply BitVec.eq_of_getLsbD_eq
    intro k hk
    have h1 : ¬ 24 + k < 8 := by omega
    have h2 : ¬ 24 + k < 16 := by omega
    have h3 : ¬ 24 + k = 16 := by omega
    have h4 : ¬ 24 + k < 24 := by omega
    have h5 : 24 + k < 32 := by omega
    simp [packWord_bit, h1, h2, h3, h4, h5, hk]
  · unfold fieldD
    congr 1
    apply BitVec.eq_of_getLsbD_eq
    intro k hk
    have h1 : ¬ 32 + k < 8 := by omega
    have h2 : ¬ 32 + k < 16 := by omega
    have h3 : ¬ 32 + k = 16 := by omega
    have h4 : ¬ 32 + k < 24 := by omega
    have h5 : ¬ 32 + k < 32 := by omega
    have h6 : 32 + k < 48 := by omega
    simp [packWord_bit, h1, h2, h3, h4, h5, h6, hk]

namespace Laws.EncodeOpcode

/-- R120, R123: the word of a command carries its opcode in bits 7:0. -/
def Statement (i : Instr) : Prop := fieldOp (encode i) = i.opcode

theorem of_pack {i : Instr} {p : Byte} {t : Bool} {n : Byte} {d : BitVec 16}
    (h : encode i = packWord i.opcode p t n d) : Statement i := by
  unfold Statement
  rw [h]
  exact (packWord_fields _ _ _ _ _).1

theorem nop : Statement .nop := of_pack rfl
theorem activate : Statement .activate := of_pack rfl
theorem deactivate : Statement .deactivate := of_pack rfl
theorem clear : Statement .clear := of_pack rfl
theorem verifyData : Statement .verifyData := of_pack rfl
theorem verifyAddr : Statement .verifyAddr := of_pack rfl
theorem verifyCtrl : Statement .verifyCtrl := of_pack rfl
theorem sample : Statement .sample := of_pack rfl
theorem crosstalk : Statement .crosstalk := of_pack rfl
theorem repwrite (p : Byte) (t : Bool) : Statement (.repwrite p t) := of_pack rfl
theorem repread (p : Byte) : Statement (.repread p) := of_pack rfl
theorem checker (t : Bool) : Statement (.checker t) := of_pack rfl
theorem walk1 : Statement .walk1 := of_pack rfl
theorem walk0 : Statement .walk0 := of_pack rfl
theorem marchc : Statement .marchc := of_pack rfl
theorem marchss : Statement .marchss := of_pack rfl
theorem marchla : Statement .marchla := of_pack rfl
theorem movinv (p : Byte) : Statement (.movinv p) := of_pack rfl
theorem retention (p : Byte) (d n : Nat) : Statement (.retention p d n) := of_pack rfl
theorem readdestr (p : Byte) (n : Nat) : Statement (.readdestr p n) := of_pack rfl
theorem addruniq (p : Byte) : Statement (.addruniq p) := of_pack rfl
theorem suite : Statement .suite := of_pack rfl
theorem fullpass : Statement .fullpass := of_pack rfl

end Laws.EncodeOpcode
end Sys2Proof
end

