-- ==== Sys2Proof/Laws/StuckAt.lean ====
section
/-! SUPPORT. The stuck-at tester: where the confirmation of a line begins (R14, R151), once. -/

namespace Sys2Proof.Machine

/-- R14, R151: `HITS` is written where the line entered is a candidate, and nowhere else; what else changes is the
position. -/
theorem enterLine_eq (line width pos : Nat) (s : State) :
    enterLine line width pos s = { s with
      work := { s.work with
        hits := if line < width ∧ s.work.cand.getLsbD line = true then 0#16 else s.work.hits }
      seq := { s.seq with posk := pos, op := 0, sample := 0 } } := by
  unfold enterLine
  split <;> rfl

end Sys2Proof.Machine
end

