-- ==== Sys2Proof/Tests/Slice0.lean ====
section
/-! SUPPORT. The model's own tests. The expected values are the spec's: its worked examples, the words it
writes out and its test vectors (each theorem names the rule). After them, for every statement with
hypotheses, a witness: concrete states that meet them, clause by clause. -/

namespace Sys2Proof.Tests
open Sys2Proof Sys2Proof.Machine

/-! ### Well-formedness (R122) -/

theorem test_delay_too_wide : (Instr.retention 0xFF#8 65536 10).wellFormed = false := by decide
theorem test_repeat_too_wide : (Instr.retention 0xFF#8 100 256).wellFormed = false := by decide
theorem test_reads_too_wide : (Instr.readdestr 0xAA#8 256).wellFormed = false := by decide
theorem test_widest_operands : (Instr.retention 0xFF#8 65535 255).wellFormed = true := by decide

/-! ### Decoding: every constructor from a word of the spec (R123, R135, R240 to R253, R302, R312, R326) -/

theorem test_decode_nop : decode 0x0000000000000000#64 = .ok .nop := rfl
theorem test_decode_activate : decode 0x0000000000000001#64 = .ok .activate := rfl
theorem test_decode_deactivate : decode 0x0000000000000002#64 = .ok .deactivate := rfl
theorem test_decode_clear : decode 0x0000000000000003#64 = .ok .clear := rfl
theorem test_decode_verifyData : decode 0x0000000000000010#64 = .ok .verifyData := rfl
theorem test_decode_verifyAddr : decode 0x0000000000000011#64 = .ok .verifyAddr := rfl
theorem test_decode_verifyCtrl : decode 0x0000000000000012#64 = .ok .verifyCtrl := rfl
theorem test_decode_sample : decode 0x0000000000000018#64 = .ok .sample := rfl
theorem test_decode_crosstalk : decode 0x0000000000000019#64 = .ok .crosstalk := rfl
theorem test_decode_repwrite : decode 0x0000000000015520#64 = .ok (.repwrite 0x55#8 true) := rfl
theorem test_decode_repread : decode 0x000000000000AA21#64 = .ok (.repread 0xAA#8) := rfl
theorem test_decode_checker : decode 0x0000000000010022#64 = .ok (.checker true) := rfl
theorem test_decode_walk1 : decode 0x0000000000000023#64 = .ok .walk1 := rfl
theorem test_decode_walk0 : decode 0x0000000000000024#64 = .ok .walk0 := rfl
theorem test_decode_marchc : decode 0x0000000000000025#64 = .ok .marchc := rfl
theorem test_decode_marchss : decode 0x0000000000000026#64 = .ok .marchss := rfl
theorem test_decode_marchla : decode 0x0000000000000027#64 = .ok .marchla := rfl
theorem test_decode_movinv : decode 0x0000000000005528#64 = .ok (.movinv 0x55#8) := rfl
theorem test_decode_retention : decode 0x000000640A00FF29#64 = .ok (.retention 0xFF#8 100 10) := rfl
theorem test_decode_readdestr : decode 0x000000000500AA2A#64 = .ok (.readdestr 0xAA#8 5) := rfl
theorem test_decode_addruniq : decode 0x000000000000FF2B#64 = .ok (.addruniq 0xFF#8) := rfl
theorem test_decode_suite : decode 0x0000000000000030#64 = .ok .suite := rfl
theorem test_decode_fullpass : decode 0x000000000000003F#64 = .ok .fullpass := rfl
/-- R125: a reserved opcode. -/
theorem test_decode_reserved : decode 0x0000000000000004#64 = .error .badOpcode := rfl
/-- R124: a bit its format does not use. -/
theorem test_decode_extra_bit : decode 0x0000000000010021#64 = .error .badParam := rfl
/-- R135. -/
theorem test_encode_retention : encode (.retention 0xFF#8 100 10) = 0x000000640A00FF29#64 := by decide
/-- The opcode table's numbering of a word's bits. -/
theorem test_table_word : decodeTableWord 64 0x000000000500AA2A = some (.readdestr 0xAA#8 5) := rfl

/-! ### Small states -/

/-- The engine in `OWNED`, running `i` at phase `phase`, position `k`, step `op`, over `len` cells from
`start`; the environment answers `answers`. -/
def run (i : Instr) (phase k op : Nat) (start : Addr := 0x4000#16) (len : Word32 := 2#32)
    (answers : List (BitVec 16) := []) : State :=
  { State.reset with
    mode := .owned, busy := true, lastcmd := encode i, answers := answers
    region := { start := start, length := len }
    seq := { stage := 0, call := 0, phase := phase, posk := k, op := op, sample := 0 } }

/-- `s` with its confirmation loop over: 200 samples, `n` hits. -/
def hits (n : Nat) (s : State) : State :=
  { s with seq := { s.seq with sample := 200 }, work := { s.work with hits := BitVec.ofNat 16 n } }

/-- `s` with `n` matching reads of its cell, or `n` delays, done. -/
def reads (n : Nat) (s : State) : State :=
  { s with seq := { s.seq with sample := n }, work := { s.work with rdcnt := BitVec.ofNat 8 n } }

/-- Read a field of the next state. -/
def nextOf {α : Type} (o : Host.Outcome State Fault Refusal) (f : State → α) : Option α :=
  match o with
  | .next s => some (f s)
  | .fault _ => none
  | .refused _ => none

/-! ### One step of each command -/

/-- R337. -/
theorem test_nop : nextOf (exec .nop (run .nop 0 0 0)) (fun t => (t.busy, t.done, t.progress)) =
    some (false, true, 100#7) := by decide
/-- R213: 180 of 200 samples succeed. -/
theorem test_activate_180 : nextOf (exec .activate (hits 180 (run .activate 0 0 4))) (fun t => (t.mode, t.busy)) =
    some (.owned, false) := by decide
/-- R213: 179 of 200 fail. -/
theorem test_activate_179 : nextOf (exec .activate (hits 179 (run .activate 0 0 4))) (fun t => (t.mode, t.fatal)) =
    some (.halted, .activateFailed) := by decide
/-- R215: the pin is released once the confirmation has succeeded. -/
theorem test_deactivate_180 : nextOf (exec .deactivate (hits 180 (run .deactivate 0 0 1))) (fun t => t.trace) =
    some [.ctlDir .test .input] := by decide
/-- R215. -/
theorem test_deactivate_179 :
    nextOf (exec .deactivate (hits 179 (run .deactivate 0 0 1))) (fun t => (t.mode, t.fatal)) =
    some (.halted, .deactivateFailed) := by decide
/-- R338: the results go, the region stays. -/
theorem test_clear :
    nextOf (exec .clear { run .clear 0 0 0 with res := { Results.zero with aggFaultyMask := 0x20#8 } })
      (fun t => (t.res.aggFaultyMask, t.region.start)) = some (0#8, 0x4000#16) := by decide
/-- R155's worked example: D3 stuck high. -/
theorem test_verifyData : nextOf (exec .verifyData { run .verifyData 4 16 2 with
      work := { Work.reset with sh := 0x0008#16 } }) (fun t => (t.res.frd, t.res.issues)) =
    some (⟨0x08#8, 0x00#8⟩, 1#4) := by decide
/-- R158's worked example: A15 stuck high, A0 stuck low. -/
theorem test_verifyAddr : nextOf (exec .verifyAddr { run .verifyAddr 4 0 2 with
      work := { Work.reset with sh := 0x8000#16, sl := 0x0001#16 } }) (fun t => (t.res.fra, t.res.issues)) =
    some (⟨0x8000#16, 0x0001#16⟩, 2#4) := by decide
/-- R14, R151: `HITS` keeps its value where a line that is no candidate is entered. -/
theorem test_hits_kept : nextOf (exec .verifyData (hits 7 (run .verifyData 2 16 0))) (fun t => (t.work.hits, t.seq.posk)) =
    some (7#16, 17) := by decide
/-- R161's worked example: CAS, and WAIT and SYS_RES. -/
theorem test_verifyCtrl : nextOf (exec .verifyCtrl { run .verifyCtrl 4 24 1 with
      work := { Work.reset with sh := 0x0004#16, sl := 0x0880#16 } }) (fun t => (t.res.frc, t.res.issues)) =
    some (⟨0x004#12, 0x880#12⟩, 4#4) := by decide
/-- R132, R182: `TEST`, read active, is bit 34 of the snapshot. -/
theorem test_sample : nextOf (exec .sample (run .sample 0 0 12 (answers := [1#16])))
      (fun t => (t.work.cur, t.trace)) = some (0x0000000400000000#64, [.ctlRead .test true]) := by decide
/-- R186's worked example: A3 driven, D1 changed. -/
theorem test_crosstalk : nextOf (exec .crosstalk (hits 160 { run .crosstalk 4 3 18 with
      work := { Work.reset with u0 := 0x20000#64 } })) (fun t => (t.work.src, t.work.dst)) =
    some (0x8#64, 0x20000#64) := by
  decide
/-- R240's worked example: an odd address gets the inverse. -/
theorem test_repwrite : nextOf (exec (.repwrite 0x0F#8 true) (run (.repwrite 0x0F#8 true) 1 0 4 0x3C01#16))
      (fun t => (t.trace, t.seq.posk)) = some ([.memWrite 0x3C01#16 0xF0#8], 1) := by decide
/-- R244's worked example: the fifth read of a cell returns the pattern with bits 0 and 1 flipped. -/
theorem test_repread : nextOf (exec (.repread 0xAA#8) (run (.repread 0xAA#8) 2 0 4 (answers := [0xA9#16])))
      (fun t => (t.res.tr.total, t.res.tr.bit)) = some (1#32, #v[1#32, 1#32, 0#32, 0#32, 0#32, 0#32, 0#32, 0#32]) := by
  decide
/-- R246's worked example. -/
theorem test_checker : nextOf (exec (.checker false) (run (.checker false) 1 0 0 0x3C01#16)) (fun t => t.trace) =
    some [.memWrite 0x3C01#16 0xAA#8] := by decide
/-- R272's worked example: the second bit's write pass. -/
theorem test_walk1 : nextOf (exec .walk1 (run .walk1 3 0 0)) (fun t => t.trace) =
    some [.memWrite 0x4000#16 0x02#8] := by decide
/-- R273's worked example: bit 5 always reads 0, the pattern is 0xFE. -/
theorem test_walk0 : nextOf (exec .walk0 (run .walk0 2 0 0 (answers := [0x00DE#16])))
      (fun t => (t.res.tr.total, t.res.tr.bit.get 5)) = some (1#32, 1#32) := by decide
/-- R283's worked example: element M2 begins at the last cell of a region that wraps. -/
theorem test_marchc : nextOf (exec .marchc (run .marchc 3 3 0 0xFFFE#16 4#32 [0xFF#16]))
      (fun t => (t.trace, t.res.tr.total)) = some ([.memRead 0x0001#16 0xFF#8], 0#32) := by decide
/-- R284's worked example: after the write at 4001, element M1 goes down to 4000. -/
theorem test_marchss : nextOf (exec .marchss (run .marchss 2 1 1)) (fun t => (t.trace, t.seq.posk)) =
    some ([.memWrite 0x4001#16 0xFF#8], 0) := by decide
/-- R285's worked example: the second of the three writes of element M1. -/
theorem test_marchla : nextOf (exec .marchla (run .marchla 2 0 2)) (fun t => t.trace) =
    some [.memWrite 0x4000#16 0x00#8] := by decide
/-- R302's worked example. -/
theorem test_movinv : nextOf (exec (.movinv 0x55#8) (run (.movinv 0x55#8) 2 0 1)) (fun t => t.trace) =
    some [.memWrite 0x4000#16 0xAA#8] := by decide
/-- R312's worked example. -/
theorem test_retention : nextOf (exec (.retention 0xFF#8 100 3) (run (.retention 0xFF#8 100 3) 2 0 0))
      (fun t => t.trace) = some [.delayMs 100] := by decide
/-- R312: `RDCNT` is still `N` after a step of the verify pass. -/
theorem test_retention_rdcnt : nextOf (exec (.retention 0xFF#8 100 3) { run (.retention 0xFF#8 100 3) 3 0 0 with
      work := { Work.reset with rdcnt := 3#8 } }) (fun t => (t.work.rdcnt, t.seq.posk)) = some (3#8, 1) := by decide
/-- R313: with `N` = 0 the wait ends at once; R312: `PROGRESS` is 66. -/
theorem test_retention_no_wait : nextOf (exec (.retention 0xFF#8 100 0) (run (.retention 0xFF#8 100 0) 2 0 0))
      (fun t => (t.trace, t.progress, t.seq.phase)) = some ([], 66#7, 3) := by decide
/-- R251's worked example: the read that does not match ends the reads of its cell. -/
theorem test_readdestr : nextOf (exec (.readdestr 0xAA#8 5) (reads 2 (run (.readdestr 0xAA#8 5) 2 1 0 (answers := [0x2B#16]))))
      (fun t => (t.res.tr.total, t.res.tr.bit.get 7, t.seq.posk, t.work.rdcnt)) =
    some (1#32, 1#32, 65536, 3#8) := by decide
/-- R50, R250: a matching read moves `RDCNT` and `SAMPLE` on, and leaves the cell and the operation. -/
theorem test_readdestr_again : nextOf (exec (.readdestr 0xAA#8 5) (run (.readdestr 0xAA#8 5) 2 1 0 (answers := [0xAA#16])))
      (fun t => (t.work.rdcnt, t.seq.sample, t.seq.posk, t.res.tr.total)) = some (1#8, 1, 1, 0#32) := by decide
/-- R253's worked example. -/
theorem test_addruniq : nextOf (exec (.addruniq 0xFF#8) (run (.addruniq 0xFF#8) 1 0 0 0x3C01#16)) (fun t => t.trace) =
    some [.memWrite 0x3C01#16 0xFE#8] := by decide
/-- R335 (a): a cancel request before a call ends the suite. -/
theorem test_suite_cancel : nextOf (exec .suite { run .suite 0 0 1 with cancelReq := true })
      (fun t => (t.busy, t.done, t.cancelled, t.cancelReq, t.progress)) = some (false, true, true, false, 0#7) := by
  decide
/-- R336: `PROGRESS` after call 0; R325: the log's count. -/
theorem test_suite_call : nextOf (exec .suite (run .suite 2 65536 0)) (fun t => (t.progress, t.res.slogCount, t.seq.call)) =
    some (5#7, 1#5, 1) := by decide
/-- R330: `PROGRESS` after stage 1. -/
theorem test_fullpass_stage : nextOf (exec .fullpass (hits 200 { run .fullpass 0 0 4 with
      mode := .released, seq := { Seq.start with stage := 1, op := 4 } })) (fun t => (t.mode, t.progress, t.seq.stage)) =
    some (.owned, 14#7, 2) := by decide
/-- R332: a cancelled pass still deactivates. -/
theorem test_fullpass_cancel : nextOf (exec .fullpass { run .fullpass 0 0 0 with
      cancelReq := true, seq := { Seq.start with stage := 5 } }) (fun t => (t.busy, t.seq.stage)) = some (true, 7) := by
  decide
/-- R358's example: in `RELEASED`, `SUITE` is refused for the mode before anything else. -/
theorem test_refused_state : nextOf (step { State.reset with
      host := [.write 0 0x30#64], region := { start := 0#16, length := 70000#32 } }) (fun t => (t.err, t.busy)) =
    some (.badState, false) := by decide
/-- R93: 65536 cells are a legal region, 65537 are not. -/
theorem test_region_limit :
    Region.legal ⟨0#16, 65536#32⟩ = true ∧ Region.legal ⟨0#16, 65537#32⟩ = false := by decide
/-- The word the host places is the command the next step runs. -/
theorem test_fetch_word : nextOf (step (State.reset.withFetchWord 64 0x18)) (fun t => (t.busy, t.lastcmd)) =
    some (true, 0x18#64) := by decide

/-! ### Witnesses -/

/-- `s` with every line a candidate. -/
def candidate (s : State) : State := { s with work := { s.work with cand := 0xFFFF#16 } }

/-- `s` with these actions of the host pending. -/
def withHost (h : List HostAct) (s : State) : State := { s with host := h }

/-- A halted engine. -/
def stopped : State := { State.reset with mode := .halted, fatal := .alreadyActive, busy := true }

theorem witness_DecodeEncodeRoundTrip :
    (Instr.retention 0x00#8 0 0).wellFormed = true ∧ (Instr.retention 0xFF#8 65535 255).wellFormed = true := by decide

theorem witness_DecodedWordIsItsEncoding : decode 0x0000FFFFFF00FF29#64 = .ok (.retention 0xFF#8 65535 255) := rfl

/-- The highest reserved bit, the reserved bit below `N`, and an operand field the command does not use. -/
theorem witness_MustBeZeroBitRefused :
    State.reset.Idle ∧
    (0x8000000000000029#64).toNat % 256 = Spec.opcodeOf (.retention 0x00#8 0 0) ∧
    ¬ Spec.usesBit (.retention 0x00#8 0 0) 63 ∧ (0x8000000000000029#64).getLsbD 63 = true ∧
    ¬ Spec.usesBit (.retention 0x00#8 0 0) 23 ∧ (0x0000000000800029#64).getLsbD 23 = true ∧
    (0x0000000000000100#64).toNat % 256 = Spec.opcodeOf .nop ∧
    ¬ Spec.usesBit .nop 8 ∧ (0x0000000000000100#64).getLsbD 8 = true := by
  refine ⟨by decide, by decide, ?_, by decide, ?_, by decide, by decide, ?_, by decide⟩ <;> simp [Spec.usesBit]

theorem witness_HostWriteDecidedInOrder :
    stopped.mode = .halted ∧ (run .nop 0 0 0).Running ∧ State.reset.Idle ∧
    (withHost [.write 0x03 1#64] State.reset).host = .write 0x03 1#64 :: [] ∧
    (¬ Spec.writable 0x01 ∧ ¬ Spec.writable 0x02 ∧ ¬ Spec.writable 0x06 ∧ ¬ Spec.writable 0x07 ∧
      ¬ Spec.writable 0x19 ∧ ¬ Spec.writable 0x100) ∧
    (Spec.writable 0x00 ∧ Spec.writable 0x05 ∧ Spec.writable 0x08 ∧ Spec.writable 0x0F ∧ Spec.writable 0x18) ∧
    0x0F = 0x08 + (7 : Fin 8).val := by
  refine ⟨by decide, by decide, by decide, by decide, by decide, by decide, by decide⟩

theorem witness_HostWriteDecodes :
    decode 0x40#64 = .error .badOpcode ∧ decode 0x0000000000010000#64 = .error .badParam ∧
    decode 0x3F#64 = .ok .fullpass := ⟨rfl, rfl, rfl⟩

/-- The last register of the map, a register below 0x20 during a run, and the indices beside the map's ends. -/
theorem witness_HostReadReturnsTheRegister :
    ((0x229, 32, 0#64) : Nat × Nat × Word64) ∈ Spec.registers State.reset ∧
    ((0x18, 8, 5#64) : Nat × Nat × Word64) ∈ Spec.registers (run .nop 0 0 0) ∧
    (∀ e ∈ Spec.registers State.reset, e.1 ≠ 0x22A) ∧ (∀ e ∈ Spec.registers State.reset, e.1 ≠ 0x4B) ∧
    (withHost [.read 0x229] State.reset).host = .read 0x229 :: [] ∧ ¬ State.reset.Running := by
  decide +kernel

theorem witness_HostReadReturnsTheRegister_draw :
    (run .nop 0 0 0).Running ∧ ((0x20, 8, 0#64) : Nat × Nat × Word64) ∈ Spec.registers (run .nop 0 0 0) ∧
    (withHost [.read 0x20] (run .nop 0 0 0)).host = .read 0x20 :: [] := by
  decide +kernel

theorem witness_ResetFromAnyState_ResetKeepsTheEnvironment : (withHost [.reset] stopped).host = .reset :: [] := rfl

theorem witness_HaltedEngineHasNoStep : stopped.mode = .halted ∧ stopped.host = [] := by decide

theorem witness_HaltedOnlyResetLeaves :
    (withHost [.write 0x03 1#64] stopped).mode = .halted ∧
    (withHost [.write 0x03 1#64] stopped).host = .write 0x03 1#64 :: [] ∧
    (withHost [.read 0x30] stopped).host = .read 0x30 :: [] ∧
    (withHost [.idle] stopped).host = .idle :: [] ∧ (withHost [.reset] stopped).host = .reset :: [] := by
  decide

theorem witness_StepRunsTheDecodedCommand :
    State.reset.Idle ∧ decode 0x18#64 = .ok .sample ∧ decodeTableWord 64 0x18 = some .sample ∧
    (run .marchc 1 0 0).Running ∧ decode (run .marchc 1 0 0).lastcmd = .ok .marchc :=
  ⟨by decide, rfl, rfl, by decide, rfl⟩

theorem witness_NopRun_ClearRun : State.reset.Idle ∧ ({ State.reset with mode := .owned } : State).Idle := by decide

theorem witness_SampleSteps :
    (∀ k ∈ [0, 1, 13, 14], (run .sample 0 0 k).Running ∧ (run .sample 0 0 k).seq.op = k) := by decide

theorem witness_SampleRun :
    ({ State.reset with answers := List.replicate 14 1#16 } : State).Idle ∧
    ({ State.reset with answers := List.replicate 14 1#16 } : State).answers =
      1#16 :: 1#16 :: (List.ofFn (fun _ : Fin 12 => 1#16) ++ []) := by
  decide

theorem witness_ActivateSteps :
    (∀ k ∈ [0, 1, 2, 3, 4, 5], (run .activate 0 0 k).Running ∧ (run .activate 0 0 k).seq.op = k) ∧
    (run .activate 0 0 2).work.rdv.getLsbD 0 = false ∧
    ({ run .activate 0 0 2 with work := { Work.reset with rdv := 1#16 } } : State).work.rdv.getLsbD 0 = true ∧
    Spec.moreSamples (run .activate 0 0 4) ∧ ¬ Spec.moreSamples (hits 180 (run .activate 0 0 4)) ∧
    Spec.enoughHits 90#7 (hits 180 (run .activate 0 0 4)) ∧
    ¬ Spec.enoughHits 90#7 (hits 179 (run .activate 0 0 4)) := by
  decide

/-- An idle engine in mode `m`, one sample configured; the environment answers `answers`. -/
def oneSample (m : Mode) (answers : List (BitVec 16)) : State :=
  { State.reset with mode := m, answers := answers, cfg := { Cfg.reset with confirmLoops := 1#16 } }

theorem witness_ActivateRun :
    (oneSample .released []).busy = false ∧ (oneSample .owned []).mode = .owned ∧
    (oneSample .released []).mode = .released ∧ Spec.groupOk .act (oneSample .released []).cfg = true ∧
    ¬ Spec.groupOk .act { Cfg.reset with confirmLoops := 0#16 } = true ∧
    ¬ Spec.groupOk .act { Cfg.reset with actPct := 101#7 } = true ∧
    (oneSample .released [1#16, 1#16]).answers = 1#16 :: ([1#16] ++ []) ∧
    (oneSample .released [0#16, 1#16]).answers = 0#16 :: ([1#16] ++ []) ∧
    (oneSample .released [0#16, 0#16]).answers = 0#16 :: ([0#16] ++ []) ∧
    [1#16].length = (oneSample .released [1#16, 1#16]).cfg.confirmLoops.toNat ∧
    (1#16).getLsbD 0 = true ∧ (0#16).getLsbD 0 = false ∧
    90 * [1#16].length ≤ ([1#16].countP fun a => a.getLsbD 0) * 100 ∧
    ([0#16].countP fun a => a.getLsbD 0) * 100 < 90 * [0#16].length := by
  decide

theorem witness_DeactivateSteps :
    (∀ k ∈ [0, 1, 2, 3], (run .deactivate 0 0 k).Running ∧ (run .deactivate 0 0 k).seq.op = k) ∧
    Spec.moreSamples (run .deactivate 0 0 1) ∧ ¬ Spec.moreSamples (hits 180 (run .deactivate 0 0 1)) ∧
    Spec.enoughHits 90#7 (hits 180 (run .deactivate 0 0 1)) ∧
    ¬ Spec.enoughHits 90#7 (hits 179 (run .deactivate 0 0 1)) := by
  decide

theorem witness_DeactivateRun :
    (oneSample .owned [0#16]).busy = false ∧ (oneSample .owned [0#16]).mode = .owned ∧
    (oneSample .released []).mode = .released ∧ Spec.groupOk .act (oneSample .owned [0#16]).cfg = true ∧
    ¬ Spec.groupOk .act { Cfg.reset with actPct := 0#7 } = true ∧
    (oneSample .owned [0#16]).answers = [0#16] ++ [] ∧ (oneSample .owned [1#16]).answers = [1#16] ++ [] ∧
    [0#16].length = (oneSample .owned [0#16]).cfg.confirmLoops.toNat ∧
    90 * [0#16].length ≤ ([0#16].countP fun a => !a.getLsbD 0) * 100 ∧
    ([1#16].countP fun a => !a.getLsbD 0) * 100 < 90 * [1#16].length := by
  decide

/-- `VerifyDataSteps`: every phase and step, and in phase 2 the last line, past it, not a candidate, sampling, and
decided both ways. -/
theorem witness_VerifyDataSteps :
    (∀ q ∈ [(0, 0), (1, 0), (1, 1), (1, 2), (1, 3), (2, 0), (2, 1), (3, 0), (3, 1), (3, 2), (4, 0), (4, 1), (4, 2)],
      (run .verifyData q.1 23 q.2).Running ∧ (run .verifyData q.1 23 q.2).seq.phase = q.1 ∧
      (run .verifyData q.1 23 q.2).seq.op = q.2) ∧
    24 ≤ (run .verifyData 2 24 0).seq.posk ∧
    (run .verifyData 2 23 0).seq.posk = 16 + 7 ∧
    (run .verifyData 2 23 0).work.cand.getLsbD 7 = false ∧
    (candidate (run .verifyData 2 23 0)).work.cand.getLsbD 7 = true ∧
    Spec.moreSamples (candidate (run .verifyData 2 23 0)) ∧
    ¬ Spec.moreSamples (hits 200 (candidate (run .verifyData 2 23 0))) ∧
    Spec.enoughHits 100#7 (hits 200 (candidate (run .verifyData 2 23 0))) ∧
    ¬ Spec.enoughHits 100#7 (hits 199 (candidate (run .verifyData 2 23 0))) := by
  decide

/-- `VerifyAddrSteps`: every phase and step, and in phase 2 the last line, past it, not a candidate, sampling, and
decided both ways. -/
theorem witness_VerifyAddrSteps :
    (∀ q ∈ [(0, 0), (1, 0), (1, 1), (1, 2), (1, 3), (2, 0), (2, 1), (3, 0), (3, 1), (3, 2), (4, 0), (4, 1), (4, 2)],
      (run .verifyAddr q.1 15 q.2).Running ∧ (run .verifyAddr q.1 15 q.2).seq.phase = q.1 ∧
      (run .verifyAddr q.1 15 q.2).seq.op = q.2) ∧
    16 ≤ (run .verifyAddr 2 16 0).seq.posk ∧
    (run .verifyAddr 2 15 0).seq.posk = 0 + 15 ∧
    (run .verifyAddr 2 15 0).work.cand.getLsbD 15 = false ∧
    (candidate (run .verifyAddr 2 15 0)).work.cand.getLsbD 15 = true ∧
    Spec.moreSamples (candidate (run .verifyAddr 2 15 0)) ∧
    ¬ Spec.moreSamples (hits 200 (candidate (run .verifyAddr 2 15 0))) ∧
    Spec.enoughHits 100#7 (hits 200 (candidate (run .verifyAddr 2 15 0))) ∧
    ¬ Spec.enoughHits 100#7 (hits 199 (candidate (run .verifyAddr 2 15 0))) := by
  decide

/-- Every phase and step, at the first and the last signal of the list it walks. -/
theorem witness_VerifyCtrlSteps :
    (∀ q ∈ [(0, 24, 0), (1, 24, 0), (1, 30, 0), (1, 24, 1), (1, 30, 1), (1, 24, 2), (1, 24, 3), (1, 29, 3), (1, 30, 3),
        (2, 31, 0), (2, 24, 0), (2, 30, 0), (2, 30, 1), (3, 24, 0), (3, 30, 0), (3, 24, 1), (3, 24, 2), (3, 30, 2),
        (3, 33, 3), (3, 35, 3), (3, 33, 4), (3, 35, 5), (3, 33, 6), (3, 35, 6), (3, 31, 7), (3, 32, 7), (4, 24, 0),
        (4, 30, 0), (4, 24, 1)],
      (run .verifyCtrl q.1 q.2.1 q.2.2).Running ∧ (run .verifyCtrl q.1 q.2.1 q.2.2).seq.phase = q.1 ∧
      (run .verifyCtrl q.1 q.2.1 q.2.2).seq.posk = q.2.1 ∧ (run .verifyCtrl q.1 q.2.1 q.2.2).seq.op = q.2.2) ∧
    Sig.ras.idx.val ≤ 5 ∧ 24 = 24 + Sig.ras.idx.val ∧ Sig.ioIn.idx.val ≤ 5 ∧ 29 = 24 + Sig.ioIn.idx.val ∧
    Sig.ioOut.idx.val ≤ 6 ∧ 30 = 24 + Sig.ioOut.idx.val ∧ 33 = 24 + Sig.int.idx.val ∧ 35 = 24 + Sig.wait.idx.val ∧
    (run .verifyCtrl 2 30 0).work.cand.getLsbD Sig.ioOut.idx.val = false ∧
    (candidate (run .verifyCtrl 2 30 0)).work.cand.getLsbD Sig.ioOut.idx.val = true ∧
    Spec.moreSamples (candidate (run .verifyCtrl 2 30 0)) ∧
    ¬ Spec.moreSamples (hits 200 (candidate (run .verifyCtrl 2 30 0))) ∧
    Spec.enoughHits 100#7 (hits 200 (candidate (run .verifyCtrl 2 30 0))) ∧
    ¬ Spec.enoughHits 100#7 (hits 199 (candidate (run .verifyCtrl 2 30 0))) := by
  decide

theorem witness_CrosstalkDriveSteps :
    (∀ q ∈ [(0, 0, 0), (0, 0, 1), (0, 0, 14), (0, 0, 15), (1, 0, 0), (16, 15, 0), (1, 0, 1), (16, 15, 1), (17, 16, 0),
        (24, 23, 1), (25, 24, 0), (31, 30, 1), (32, 33, 0), (33, 35, 0), (1, 0, 2), (1, 0, 33), (16, 15, 34),
        (17, 16, 33), (24, 23, 34), (25, 24, 33), (31, 30, 34), (32, 33, 33), (33, 35, 33), (1, 0, 35), (32, 33, 35),
        (33, 35, 35)],
      (run .crosstalk q.1 q.2.1 q.2.2).Running ∧ (run .crosstalk q.1 q.2.1 q.2.2).seq.phase = q.1 ∧
      (run .crosstalk q.1 q.2.1 q.2.2).seq.posk = q.2.1 ∧ (run .crosstalk q.1 q.2.1 q.2.2).seq.op = q.2.2 ∧
      (run .crosstalk q.1 q.2.1 q.2.2).cancelReq = false) ∧
    ({ run .crosstalk 1 0 0 with cancelReq := true } : State).cancelReq = true ∧
    Spec.drivablePositions[1]? = some 1 ∧ Spec.drivablePositions[32]? = some 35 := by
  decide

theorem witness_CrosstalkSampleSteps :
    (∀ k ∈ [3, 16, 17, 18, 19, 31, 32], (run .crosstalk 1 0 k).Running ∧ 1 ≤ (run .crosstalk 1 0 k).seq.phase ∧
      (run .crosstalk 1 0 k).seq.op = k) ∧
    Spec.unexpectedAt 1#64 0#64 0 = 0#64 ∧ Spec.unexpectedAt 2#64 0#64 0 ≠ 0#64 ∧
    Spec.moreSamples (run .crosstalk 1 0 18) ∧ ¬ Spec.moreSamples (hits 160 (run .crosstalk 1 0 18)) ∧
    Spec.enoughHits 80#7 (hits 160 (run .crosstalk 1 0 18)) ∧
    ¬ Spec.enoughHits 80#7 (hits 159 (run .crosstalk 1 0 18)) := by
  decide

theorem witness_MemoryPrologue :
    (run .marchc 0 0 0).Running ∧ Spec.phases .marchc ≠ [] ∧ (run .marchc 0 0 0).seq.phase = 0 :=
  ⟨by decide, by simp [Spec.phases], rfl⟩

/-- The last operation at the last cell of a descending pass, at both ends of the region. -/
theorem witness_MemoryWriteStep :
    (run .marchc 3 1 1).Running ∧ Spec.stands .marchc (run .marchc 3 1 1) true [Spec.r1, Spec.w0] Spec.w0 ∧
    Spec.stands .marchc (run .marchc 3 0 1) true [Spec.r1, Spec.w0] Spec.w0 :=
  ⟨by decide, ⟨by decide, rfl, rfl, by decide, by decide⟩, ⟨by decide, rfl, rfl, by decide, by decide⟩⟩

theorem witness_MemoryCompareStep :
    (run .marchc 4 1 0 (len := 65536#32)).Running ∧
    Spec.stands .marchc (run .marchc 4 65535 0 (len := 65536#32)) true [Spec.r0] Spec.r0 :=
  ⟨by decide, ⟨by decide, rfl, rfl, by decide, by decide⟩⟩

theorem witness_MemoryDiscardStep :
    Spec.stands (.repread 0xAA#8) (run (.repread 0xAA#8) 2 1 3) false
      [.discard, .discard, .discard, .discard, .compare (Spec.const 0xAA#8)] .discard :=
  ⟨by decide, rfl, rfl, by decide, by decide⟩

theorem witness_ReadUntilMismatchStep :
    Spec.stands (.readdestr 0xAA#8 1) (run (.readdestr 0xAA#8 1) 2 0 0) false
      [.repeatStop (Spec.const 0xAA#8) 1] (.repeatStop (Spec.const 0xAA#8) 1) ∧
    (Spec.readsDone (run (.readdestr 0xAA#8 1) 2 0 0)).toNat < 1 ∧
    1 ≤ (Spec.readsDone (reads 1 (run (.readdestr 0xAA#8 1) 2 0 0))).toNat :=
  ⟨⟨by decide, rfl, rfl, by decide, by decide⟩, by decide, by decide⟩

theorem witness_RetentionWait :
    (run (.retention 0xFF#8 100 1) 2 0 0).Running ∧ (run (.retention 0xFF#8 100 1) 2 0 0).seq.phase = 2 ∧
    (run (.retention 0xFF#8 100 1) 2 0 0).work.rdcnt.toNat < 1 ∧
    0 ≤ (run (.retention 0xFF#8 100 0) 2 0 0).work.rdcnt.toNat := by
  decide

theorem witness_MemoryPassEnd :
    (run .marchc 3 65536 0).Running ∧ (run .marchc 3 65536 0).seq.phase = 2 + 1 ∧
    (Spec.phases .marchc)[2]? = some (.pass true [Spec.r1, Spec.w0]) ∧ (run .marchc 3 65536 0).seq.posk = 65536 ∧
    2 + 1 < (Spec.phases .marchc).length ∧ (Spec.phases (.retention 0xFF#8 100 1))[1]? = some (.wait 100 1) ∧
    (Spec.phases .marchc)[3]? = some (.pass true [Spec.r0]) ∧
    3 + 1 = (Spec.phases .marchc).length :=
  ⟨by decide, rfl, rfl, rfl, by decide, rfl, rfl, rfl⟩

theorem walk_phases (i : Instr) (h : (Spec.phases i).length = 16) : Spec.phases i ≠ [] := by
  intro e
  rw [e] at h
  cases h

theorem witness_MemoryRunAccesses :
    (oneSample .owned []).busy = false ∧ (oneSample .owned []).mode = .owned ∧
    Instr.wellFormed .walk1 = true ∧ Spec.phases .walk1 ≠ [] ∧ (∀ p n, Instr.walk1 ≠ .readdestr p n) ∧
    (oneSample .owned []).region.length.toNat ≤ 65536 ∧ (⟨0#16, 65536#32⟩ : Region).length.toNat ≤ 65536 :=
  ⟨rfl, rfl, rfl, walk_phases .walk1 rfl, by simp, by decide, by decide⟩

theorem witness_FaithfulMemoryFindsNothing :
    (run .walk0 0 0 0).Runs .walk0 ∧ Spec.phases .walk0 ≠ [] ∧ (run .walk0 0 0 0).seq = Spec.seqZero ∧
    (run .walk0 0 0 0 (len := 65536#32)).region.length.toNat ≤ 65536 :=
  ⟨⟨by decide, rfl⟩, walk_phases .walk0 rfl, rfl, by decide⟩

/-- `SUITE` at call `c`, phase `phase`, position `k`, step `op`. -/
def suiteAt (c phase k op : Nat) : State :=
  { run .suite phase k op with seq := { Seq.start with call := c, phase := phase, posk := k, op := op } }

theorem witness_SuiteSteps :
    (∀ q ∈ [(0, 0), (0, 1), (2, 0)], (run .suite q.1 0 q.2).Running ∧ (run .suite q.1 0 q.2).seq.phase = q.1 ∧
      (run .suite q.1 0 q.2).seq.op = q.2) ∧
    ({ run .suite 0 0 1 with cancelReq := true } : State).cancelReq = true ∧
    (suiteAt 0 0 0 1).cancelReq = false ∧ (suiteAt 0 0 0 1).seq.call < 19 ∧ (suiteAt 18 3 65536 0).seq.call < 19 ∧
    nextOf (exec (.repwrite 0xAA#8 false) (suiteAt 0 0 0 1)) (fun u => u.busy) = some true ∧
    nextOf (exec (.repwrite 0xAA#8 false) (suiteAt 0 2 65536 0)) (fun u => u.busy) = some false ∧
    nextOf (exec (.retention 0xFF#8 100 10) (suiteAt 18 3 65536 0)) (fun u => u.busy) = some false := by
  decide

theorem witness_SuiteSteps_words :
    decode (Spec.suiteWord Cfg.reset 0) = .ok (.repwrite 0xAA#8 false) ∧
    decode (Spec.suiteWord Cfg.reset 18) = .ok (.retention 0xFF#8 100 10) := ⟨rfl, rfl⟩

/-- `FULLPASS` at stage `st`, phase `phase`, step `op`. -/
def stageAt (st phase op : Nat) : State :=
  { run .fullpass phase 0 op with seq := { Seq.start with stage := st, phase := phase, op := op } }

theorem witness_FullpassSteps :
    (∀ st ∈ [0, 1, 2, 6, 7], (stageAt st 0 0).Running ∧ (stageAt st 0 0).seq.stage = st ∧
      (stageAt st 0 0).cancelled = false ∧ (stageAt st 0 0).cancelReq = false) ∧
    ({ stageAt 6 0 0 with cancelReq := true } : State).cancelReq = true ∧
    nextOf (exec .activate (stageAt 1 0 0)) (fun u => u.busy) = some true ∧
    nextOf (exec .activate (hits 200 (stageAt 1 0 4))) (fun u => (u.busy, u.cancelled)) = some (false, false) ∧
    nextOf (exec .crosstalk { stageAt 5 1 0 with cancelReq := true }) (fun u => (u.busy, u.cancelled)) =
      some (false, true) ∧
    nextOf (exec .deactivate (stageAt 7 0 3)) (fun u => u.busy) = some false ∧
    (stageAt 7 0 3).work.cancelling = false ∧
    ({ stageAt 7 0 3 with work := { Work.reset with cancelling := true } } : State).work.cancelling = true := by
  decide

theorem witness_SuiteRun :
    (oneSample .owned []).busy = false ∧ (oneSample .owned []).mode = .owned ∧
    (oneSample .owned []).region.length.toNat ≤ 65536 ∧ (⟨0#16, 65536#32⟩ : Region).length.toNat ≤ 65536 := by
  decide

/-- A confirmed activation, and then a line that reads inactive as long as it is asked. -/
def passAnswers : List (BitVec 16) := 0#16 :: ([1#16] ++ List.replicate 992 0#16)

/-- `FullpassRun`: the first read active, the activation not confirmed, and confirmed with enough inactive answers
after it. -/
theorem witness_FullpassRun :
    (oneSample .released passAnswers).busy = false ∧ (oneSample .released passAnswers).mode = .released ∧
    Spec.groupOk .all (oneSample .released passAnswers).cfg = true ∧
    (oneSample .released passAnswers).region.length.toNat ≤ 65536 ∧
    (oneSample .released [1#16, 1#16]).answers = 1#16 :: ([1#16] ++ []) ∧ (1#16).getLsbD 0 = true ∧
    (oneSample .released [0#16, 0#16]).answers = 0#16 :: ([0#16] ++ []) ∧ (0#16).getLsbD 0 = false ∧
    ([0#16].countP fun a => a.getLsbD 0) * 100 < 90 * [0#16].length ∧
    (oneSample .released passAnswers).answers = 0#16 :: ([1#16] ++ List.replicate 992 0#16) ∧
    [1#16].length = (oneSample .released passAnswers).cfg.confirmLoops.toNat ∧
    90 * [1#16].length ≤ ([1#16].countP fun a => a.getLsbD 0) * 100 ∧
    Spec.passReads (oneSample .released passAnswers).cfg (oneSample .released passAnswers).region
      ≤ (List.replicate 992 0#16).length ∧
    ∀ a ∈ List.replicate 992 0#16, a.getLsbD 0 = false := by
  refine ⟨rfl, rfl, by decide, by decide, rfl, rfl, rfl, rfl, by decide, rfl, rfl, by decide, ?_, ?_⟩
  · rw [List.length_replicate]; decide
  · intro a h; rw [List.eq_of_mem_replicate h]; rfl

theorem witness_ExecFrame : ∃ t, exec .marchc (run .marchc 1 0 0) = .next t := ⟨_, rfl⟩

theorem witness_PinFrame :
    (∃ t, exec .verifyData (run .verifyData 1 16 0) = .next t) ∧ (∃ t, exec .verifyAddr (run .verifyAddr 1 0 0) = .next t) ∧
    (∃ t, exec .verifyCtrl (run .verifyCtrl 1 24 0) = .next t) ∧ (∃ t, exec .activate (run .activate 0 0 2) = .next t) ∧
    (∃ t, exec .crosstalk (run .crosstalk 25 24 0) = .next t) ∧ (∃ t, exec .suite (run .suite 0 0 0) = .next t) :=
  ⟨⟨_, rfl⟩, ⟨_, rfl⟩, ⟨_, rfl⟩, ⟨_, rfl⟩, ⟨_, rfl⟩, ⟨_, rfl⟩⟩

theorem witness_ResultFrame :
    (∃ t, exec .nop (run .nop 0 0 0) = .next t) ∧ (∃ t, exec .sample (run .sample 0 0 14) = .next t) ∧
    (∃ t, exec .verifyData (run .verifyData 4 16 2) = .next t) ∧
    (∃ t, exec .verifyAddr (run .verifyAddr 4 0 2) = .next t) ∧
    (∃ t, exec .verifyCtrl (run .verifyCtrl 4 24 1) = .next t) ∧
    (∃ t, exec .crosstalk (run .crosstalk 33 35 35) = .next t) ∧ (∃ t, exec .suite (run .suite 0 0 0) = .next t) ∧
    (∃ t, exec .marchc (run .marchc 0 0 0) = .next t) :=
  ⟨⟨_, rfl⟩, ⟨_, rfl⟩, ⟨_, rfl⟩, ⟨_, rfl⟩, ⟨_, rfl⟩, ⟨_, rfl⟩, ⟨_, rfl⟩, ⟨_, rfl⟩⟩

theorem witness_IssuedOperations :
    ∃ t e, exec .marchc (run .marchc 1 0 0) = .next t ∧ t.trace = e :: (run .marchc 1 0 0).trace :=
  ⟨_, _, rfl, rfl⟩

theorem witness_DecidesOnNothingElse :
    (run .marchc 1 0 0).busy = true ∧ ∃ t, exec .marchc (run .marchc 1 0 0) = .next t := ⟨rfl, ⟨_, rfl⟩⟩

theorem witness_CellAddresses :
    (⟨0xFFFE#16, 65536#32⟩ : Region).length.toNat ≤ 65536 ∧ 65535 < (⟨0xFFFE#16, 65536#32⟩ : Region).length.toNat := by
  decide

theorem witness_Sound : TestResult.zero.Sound ∧ (⟨3#32, vec8 fun _ => 2#32⟩ : TestResult).Sound := by
  refine ⟨⟨?_, ?_⟩, ⟨?_, ?_⟩⟩ <;> decide

/-! The invariants: a state in the middle of `VERIFY_DATA` (the data bus driven, phase 2) that meets them all, one
in the middle of `CROSSTALK`, and one in the middle of `MARCHC`. -/

/-- The pins of a session. -/
def sessionPins : Pins :=
  { Pins.reset with
    ctlOut := Pins.reset.ctlOut.set 10 true (by decide)
    ctlDir := Pins.reset.ctlDir.set 10 .output (by decide) }

/-- `VERIFY_DATA` confirming its last line. -/
def verifying : State :=
  { run .verifyData 2 23 0 with
    pins := { sessionPins with dataDir := .output }, progress := 25#7, trace := [.ctlWrite .test true] }

/-- `CROSSTALK` at its trigger, the data line D1 driven. -/
def detecting : State :=
  { run .crosstalk 18 17 17 with
    pins := { sessionPins with dataDir := .output, dataOut := 0x02#8 }, progress := 51#7 }

/-- `MARCHC` at the last cell of its third element. -/
def marching : State :=
  { run .marchc 3 0 0 with pins := sessionPins, progress := 50#7, trace := [.ctlWrite .test true] }

theorem verifying_runs {i : Instr} (h : verifying.Runs i) : i = .verifyData := by
  have e : decode verifying.lastcmd = .ok .verifyData := rfl
  have := h.2
  rw [e] at this
  cases this; rfl

theorem marching_runs {i : Instr} (h : marching.Runs i) : i = .marchc := by
  have e : decode marching.lastcmd = .ok .marchc := rfl
  have := h.2
  rw [e] at this
  cases this; rfl

theorem witness_OwnershipKept : OwnershipInv verifying ∧ ∃ t, step verifying = .next t :=
  ⟨⟨by decide, by decide, by decide, fun _ _ => ⟨.verifyData, rfl, rfl⟩⟩, ⟨_, rfl⟩⟩

theorem witness_GateKept : GateInv verifying ∧ ∃ t, step verifying = .next t := by
  refine ⟨⟨witness_OwnershipKept.1, ⟨fun h => absurd h (by decide), trivial⟩, fun _ _ => rfl, fun _ _ _ => rfl⟩,
    ⟨_, rfl⟩⟩

theorem witness_PinsKept : PinsInv verifying ∧ ∃ t, step verifying = .next t := by
  refine ⟨⟨witness_OwnershipKept.1, fun h => absurd h (by decide), fun h => absurd h (by decide), fun i h => ?_⟩,
    ⟨_, rfl⟩⟩
  cases verifying_runs h
  refine ⟨⟨by decide, by decide, by decide, by decide⟩, fun g hg => ?_, ⟨by decide, by decide⟩, fun e => by cases e⟩
  cases g <;> first | exact absurd rfl hg | exact ⟨by decide, by decide⟩

theorem witness_IssuesKept : IssuesInv verifying ∧ ∃ t, step verifying = .next t :=
  ⟨⟨by decide, by decide, by decide, by decide⟩, ⟨_, rfl⟩⟩

theorem witness_CrosstalkKept : CrosstalkInv detecting ∧ ∃ t, step detecting = .next t := by
  refine ⟨⟨?_, ?_, ?_, ?_, ?_, ?_, ?_, ?_, by decide, by decide, fun _ _ => ⟨by decide, fun h => absurd h (by decide)⟩⟩,
    ⟨_, rfl⟩⟩ <;>
  intro k <;> simp [detecting, run, State.reset, Results.zero, Work.reset]

theorem witness_CtrlRecordKept : CtrlRecordInv verifying ∧ ∃ t, step verifying = .next t := by
  refine ⟨⟨⟨fun k _ => ?_, by decide⟩, fun h => absurd h (by decide)⟩, ⟨_, rfl⟩⟩
  simp [verifying, run, State.reset, Results.zero]

theorem witness_CountersKept : CountersInv marching ∧ ∃ t, step marching = .next t := by
  have z : TestResult.zero.Sound := witness_Sound.1
  refine ⟨⟨z, z, fun c => ?_⟩, ⟨_, rfl⟩⟩
  have e : (marching.res.slog.get c).result = TestResult.zero := by
    simp [marching, run, State.reset, Results.zero, Results.emptyLog, Vector.get_eq_getElem, SlogEntry.zero]
  rw [e]; exact z

theorem witness_ProgressKept :
    ProgressInv marching ∧ (∃ t, step marching = .next t) ∧ marching.busy = true ∧
    ∀ rest, marching.host ≠ .reset :: rest := by
  refine ⟨⟨by decide, fun i _ h => ?_⟩, ⟨_, rfl⟩, rfl, fun _ h => by cases h⟩
  have e : decode marching.lastcmd = .ok .marchc := rfl
  rw [e] at h; cases h
  decide

theorem witness_RegionKept :
    Spec.RegionInv marching ∧ ∃ t v, step marching = .next t ∧ t.trace = .memRead 0x4000#16 v :: marching.trace :=
  ⟨fun i d ops _ _ _ => .inl (by decide), ⟨_, _, rfl, rfl⟩⟩

/-- `ACTIVATE` at its first operation, and RETENTION at its wait. -/
def activating : State := { run .activate 0 0 0 with mode := .released }

/-- See `activating`. -/
def waiting : State := run (.retention 0xFF#8 100 1) 2 0 0

/-- A memory read in a session; the activation's first operation in `RELEASED`; and a wait. -/
theorem witness_DrivenOnlyWhileOwned :
    (OwnershipInv marching ∧ (∀ i, marching.Runs i → current i marching.seq ≠ .activate) ∧
      ∃ t e, step marching = .next t ∧ t.trace = e :: marching.trace ∧ Spec.drives e = true) ∧
    (OwnershipInv activating ∧ activating.mode ≠ .owned ∧
      ∃ t e, step activating = .next t ∧ t.trace = e :: activating.trace ∧ Spec.drives e = true) ∧
    (OwnershipInv waiting ∧ ∃ t, step waiting = .next t ∧ t.trace = .delayMs 100 :: waiting.trace) := by
  refine ⟨⟨⟨by decide, by decide, by decide, fun _ _ => ⟨.marchc, rfl, rfl⟩⟩, fun i h => ?_, _, _, rfl, rfl, rfl⟩,
    ⟨⟨by decide, by decide, by decide, fun _ _ => ⟨.activate, rfl, rfl⟩⟩, by decide, _, _, rfl, rfl, rfl⟩,
    ⟨by decide, by decide, by decide, fun _ _ => ⟨.retention 0xFF#8 100 1, rfl, rfl⟩⟩, _, rfl, rfl⟩
  rw [marching_runs h]
  decide

theorem witness_NeverStopsUnlessHalted : OwnershipInv verifying ∧ verifying.mode ≠ .halted :=
  ⟨witness_OwnershipKept.1, by decide⟩

theorem witness_EveryCommandEnds :
    (Instr.readdestr 0x00#8 255).wellFormed = true ∧ (run (.readdestr 0x00#8 255) 0 0 0).Running := by decide

end Sys2Proof.Tests
end

section
/-! SUPPORT. Every command ends (R9, R22, R97): a rank for each body, and O60 from them. -/

namespace Sys2Proof.Machine

/-! ### Bodies that end

A body ends when each step with which it goes on lowers a rank in a well-founded order. The rank is read from
`SEQ`, the configuration and, where a count decides, `RDCNT`; it asks nothing of the state, so positions that no run
reaches are ranked too. -/

/-- What one step of a body comes to: it goes on, at a state with `P`, or the body is over; the fatal halt leaves
the engine in `HALTED` (R352). -/
def BodyStep.GoesOn (P : State → Prop) : BodyStep → Prop
  | .more t => P t
  | .ended _ | .cancelled _ => True
  | .fatal t => t.mode = .halted

@[simp] theorem goesOn_more (P : State → Prop) (t : State) : (BodyStep.more t).GoesOn P ↔ P t := .rfl
@[simp] theorem goesOn_ended (P : State → Prop) (t : State) : (BodyStep.ended t).GoesOn P := trivial
@[simp] theorem goesOn_cancelled (P : State → Prop) (t : State) : (BodyStep.cancelled t).GoesOn P := trivial
@[simp] theorem goesOn_fatal (P : State → Prop) (t : State) :
    (BodyStep.fatal t).GoesOn P ↔ t.mode = .halted := .rfl

theorem BodyStep.GoesOn.mono {P Q : State → Prop} {r : BodyStep} (h : r.GoesOn P) (hPQ : ∀ t, P t → Q t) :
    r.GoesOn Q := by
  cases r with
  | more t => exact hPQ t h
  | ended _ | cancelled _ => trivial
  | fatal _ => exact h

theorem BodyStep.GoesOn.ite {P : State → Prop} {c : Prop} [Decidable c] {r r' : BodyStep}
    (h : c → r.GoesOn P) (h' : ¬ c → r'.GoesOn P) : (if c then r else r').GoesOn P := by
  split
  · exact h ‹_›
  · exact h' ‹_›

/-- Every step with which the body goes on lowers the rank. -/
def Descends {α : Type} [LT α] (ρ : State → α) (body : State → BodyStep) : Prop :=
  ∀ s, (body s).GoesOn fun t => ρ t < ρ s

/-- Below `s` in the same stage of `FULLPASS`. -/
def Below {α : Type} [LT α] (ρ : State → α) (s t : State) : Prop :=
  t.seq.stage = s.seq.stage ∧ ρ t < ρ s

/-- A body that can be a stage of `FULLPASS`: it descends, and leaves the stage to the pass. -/
def DescendsInStage {α : Type} [LT α] (ρ : State → α) (body : State → BodyStep) : Prop :=
  ∀ s, (body s).GoesOn (Below ρ s)

theorem DescendsInStage.descends {α : Type} [LT α] {ρ : State → α} {body : State → BodyStep}
    (h : DescendsInStage ρ body) : Descends ρ body :=
  fun s => (h s).mono fun _ ht => ht.2

/-- A body whose steps lower a well-founded rank ends. -/
theorem ends_of_descends {α : Type} [LT α] [WellFoundedLT α] {ρ : State → α} {i : Instr}
    (h : Descends ρ (bodyOf i)) (s : State) :
    ∃ n t, Spec.execN i n s = .next t ∧ (t.busy = false ∨ t.mode = .halted) := by
  induction s using (InvImage.wf ρ wellFounded_lt).induction with
  | _ s ih =>
    by_cases hstop : s.busy = false ∨ s.mode = .halted
    · exact ⟨0, s, rfl, hstop⟩
    obtain ⟨hb, hm⟩ := not_or.mp hstop
    have hexec := exec_running (i := i) (Bool.eq_true_of_not_eq_false hb) hm
    have hs := h s
    cases hr : bodyOf i s with
    | more t =>
      rw [hr] at hexec hs
      obtain ⟨n, u, hrun, hend⟩ := ih t hs
      exact ⟨n + 1, u, by simpa [Spec.execN, hexec] using hrun, hend⟩
    | ended t => exact ⟨1, complete t, by simp [Spec.execN, hexec, hr], .inl rfl⟩
    | cancelled t => exact ⟨1, completeCancelled t, by simp [Spec.execN, hexec, hr], .inl rfl⟩
    | fatal t => exact ⟨1, t, by simp [Spec.execN, hexec, hr], .inr (by simpa [hr] using hs)⟩

/-- Four numbers, compared from the left. -/
abbrev Rank := ℕ ×ₗ ℕ ×ₗ ℕ ×ₗ ℕ

/-- A rank from its numbers. -/
def rank (a b c d : ℕ) : Rank := toLex (a, toLex (b, toLex (c, d)))

@[simp] theorem rank_lt_rank {a b c d a' b' c' d' : ℕ} :
    rank a b c d < rank a' b' c' d' ↔
      a < a' ∨ a = a' ∧ (b < b' ∨ b = b' ∧ (c < c' ∨ c = c' ∧ d < d')) := by
  simp [rank, Prod.Lex.toLex_lt_toLex]

/-! ### What each operation leaves of the position and the configuration

One lemma per operation, for `simp`; a rank reads nothing else of the state but `RDCNT`. -/

section
variable (s : State)

@[simp] theorem dataRead_place : (dataRead s).seq = s.seq ∧ (dataRead s).cfg = s.cfg := ⟨rfl, rfl⟩
@[simp] theorem addrRead_place : (addrRead s).seq = s.seq ∧ (addrRead s).cfg = s.cfg := ⟨rfl, rfl⟩
@[simp] theorem ctlDir_place (g : Sig) (d : Dir) : (ctlDir g d s).seq = s.seq ∧ (ctlDir g d s).cfg = s.cfg :=
  ⟨rfl, rfl⟩
@[simp] theorem ctlWrite_place (g : Sig) (b : Bool) :
    (ctlWrite g b s).seq = s.seq ∧ (ctlWrite g b s).cfg = s.cfg := ⟨rfl, rfl⟩
@[simp] theorem ctlRead_place (g : Sig) : (ctlRead g s).seq = s.seq ∧ (ctlRead g s).cfg = s.cfg := ⟨rfl, rfl⟩
@[simp] theorem settle_place : (settle s).seq = s.seq ∧ (settle s).cfg = s.cfg := ⟨rfl, rfl⟩
@[simp] theorem confirmWait_place : (confirmWait s).seq = s.seq ∧ (confirmWait s).cfg = s.cfg := ⟨rfl, rfl⟩
@[simp] theorem startConfirm_place :
    (startConfirm s).seq = { s.seq with sample := 0 } ∧ (startConfirm s).cfg = s.cfg := ⟨rfl, rfl⟩
@[simp] theorem countSample_place (hit : Bool) :
    (countSample hit s).seq = { s.seq with sample := s.seq.sample + 1 } ∧ (countSample hit s).cfg = s.cfg :=
  ⟨rfl, rfl⟩
@[simp] theorem phaseEnd_place (top : Bool) (j n : Nat) :
    (phaseEnd top j n s).seq = s.seq ∧ (phaseEnd top j n s).cfg = s.cfg := by cases top <;> exact ⟨rfl, rfl⟩

@[simp] theorem busDir_place (b : Bus) (d : Dir) : (busDir b d s).seq = s.seq ∧ (busDir b d s).cfg = s.cfg := by
  cases b <;> exact ⟨rfl, rfl⟩
@[simp] theorem busWrite_place (b : Bus) (v : BitVec 16) :
    (busWrite b v s).seq = s.seq ∧ (busWrite b v s).cfg = s.cfg := by cases b <;> exact ⟨rfl, rfl⟩
@[simp] theorem busRead_place (b : Bus) : (busRead b s).seq = s.seq ∧ (busRead b s).cfg = s.cfg := by
  cases b <;> exact ⟨rfl, rfl⟩
@[simp] theorem writeBusRecord_place (b : Bus) (high low : BitVec 16) :
    (writeBusRecord b high low s).seq = s.seq ∧ (writeBusRecord b high low s).cfg = s.cfg := by
  cases b <;> exact ⟨rfl, rfl⟩
@[simp] theorem enterLine_place (line width pos : Nat) :
    (enterLine line width pos s).seq = { s.seq with posk := pos, op := 0, sample := 0 } ∧
    (enterLine line width pos s).cfg = s.cfg := by
  rw [enterLine_eq]; exact ⟨rfl, rfl⟩

@[simp] theorem writeCtrlRecord_place (high low : BitVec 12) :
    (writeCtrlRecord high low s).seq = s.seq ∧ (writeCtrlRecord high low s).cfg = s.cfg := ⟨rfl, rfl⟩
@[simp] theorem markCand_place (g : Sig) : (markCand g s).seq = s.seq ∧ (markCand g s).cfg = s.cfg := ⟨rfl, rfl⟩
@[simp] theorem markLow_place (g : Sig) : (markLow g s).seq = s.seq ∧ (markLow g s).cfg = s.cfg := ⟨rfl, rfl⟩
@[simp] theorem nextG_place (o : Nat) :
    (nextG o s).seq = { s.seq with
      posk := if s.seq.posk < 30 then s.seq.posk + 1 else 24
      op := if s.seq.posk < 30 then s.seq.op else o, sample := 0 } ∧
    (nextG o s).cfg = s.cfg := by
  unfold nextG; split <;> exact ⟨rfl, rfl⟩

@[simp] theorem cellWrite_place (v : CellVal) :
    (cellWrite v s).seq = s.seq ∧ (cellWrite v s).cfg = s.cfg := by
  rw [cellWrite_eq]; exact ⟨rfl, rfl⟩
@[simp] theorem cellFetch_place (v : CellVal) :
    (cellFetch v s).seq = s.seq ∧ (cellFetch v s).cfg = s.cfg := by
  rw [cellFetch_eq]; exact ⟨rfl, rfl⟩
@[simp] theorem cellRead_place (v : CellVal) :
    (cellRead v s).seq = s.seq ∧ (cellRead v s).cfg = s.cfg := by
  rw [cellRead, accumulate_eq]; exact cellFetch_place s v
@[simp] theorem cellReadDiscard_place :
    (cellReadDiscard s).seq = s.seq ∧ (cellReadDiscard s).cfg = s.cfg := by
  rw [cellReadDiscard_eq]; exact ⟨rfl, rfl⟩
@[simp] theorem accumulate_place : (accumulate s).seq = s.seq ∧ (accumulate s).cfg = s.cfg := ⟨rfl, rfl⟩
@[simp] theorem countRead_place : (countRead s).seq = s.seq ∧ (countRead s).cfg = s.cfg := ⟨rfl, rfl⟩
@[simp] theorem readAgain_place :
    (readAgain s).seq = { s.seq with sample := s.seq.sample + 1 } ∧ (readAgain s).cfg = s.cfg := ⟨rfl, rfl⟩
@[simp] theorem rstopBegin_place : (rstopBegin s).seq = s.seq ∧ (rstopBegin s).cfg = s.cfg := by
  rw [rstopBegin_eq]; exact ⟨rfl, rfl⟩

@[simp] theorem snapRead_place (k : Nat) : (snapRead k s).seq = s.seq ∧ (snapRead k s).cfg = s.cfg := by
  unfold snapRead; split <;> simp
@[simp] theorem writeXt_place (src dst : Word64) :
    (writeXt src dst s).seq = s.seq ∧ (writeXt src dst s).cfg = s.cfg := ⟨rfl, rfl⟩
@[simp] theorem driveFirst_place (p : Nat) : (driveFirst p s).seq = s.seq ∧ (driveFirst p s).cfg = s.cfg := by
  unfold driveFirst; split <;> exact ⟨rfl, rfl⟩
@[simp] theorem driveSecond_place (p : Nat) : (driveSecond p s).seq = s.seq ∧ (driveSecond p s).cfg = s.cfg := by
  unfold driveSecond; split <;> exact ⟨rfl, rfl⟩
@[simp] theorem releaseFirst_place (p : Nat) :
    (releaseFirst p s).seq = s.seq ∧ (releaseFirst p s).cfg = s.cfg := by
  unfold releaseFirst; split <;> exact ⟨rfl, rfl⟩
@[simp] theorem releaseSecond_place (p : Nat) :
    (releaseSecond p s).seq = s.seq ∧ (releaseSecond p s).cfg = s.cfg := by
  unfold releaseSecond; split <;> exact ⟨rfl, rfl⟩
end

/-! ### Primitive commands -/

/-- The engine steps a confirmation loop (R14) has left that waits at step `top`. A step off `top` is the read of
a sample, still to be counted. -/
def confirmLeft (top : ℕ) (s : State) : ℕ :=
  if s.seq.op = top then 2 * (s.cfg.confirmLoops.toNat - s.seq.sample)
  else 2 * (s.cfg.confirmLoops.toNat - (s.seq.sample + 1)) + 1

theorem confirmLeft_wait {top o : ℕ} {s : State} (hop : s.seq.op = top) (ho : o ≠ top) (h : s.sampling = true) :
    confirmLeft top ((confirmWait s).gotoOp o) < confirmLeft top s := by
  rw [sampling_iff] at h
  simp [confirmLeft, hop, ho]; omega

theorem confirmLeft_count {top : ℕ} {s u : State} (hit : Bool) (hop : s.seq.op ≠ top) (hseq : u.seq = s.seq)
    (hcfg : u.cfg = s.cfg) : confirmLeft top ((countSample hit u).gotoOp top) < confirmLeft top s := by
  simp [confirmLeft, hop, hseq, hcfg]

/-- R212: steps 0 to 3 are passed once, the loop at step 4 counts down. -/
def activateRank (s : State) : Rank := rank (4 - s.seq.op) (confirmLeft 4 s) 0 0

theorem activateBody_descends : DescendsInStage activateRank activateBody := by
  intro s
  unfold activateBody
  split
  case h_3 hop => split <;> simp [Below, activateRank, hop]
  case h_5 hop =>
    split
    case isTrue hmore => simp [Below, activateRank, hop, confirmLeft_wait hop _ hmore]
    case isFalse => split <;> simp
  case h_6 hop =>
    simp [Below, activateRank, confirmLeft_count _ hop]; omega
  all_goals simp [Below, activateRank, *]

/-- R215: the loop is at step 1; step 2 is inside it, step 3 after it. -/
def deactivateRank (s : State) : Rank :=
  rank (if s.seq.op = 0 then 2 else if s.seq.op ≤ 2 then 1 else 0) (confirmLeft 1 s) 0 0

theorem deactivateBody_descends : DescendsInStage deactivateRank deactivateBody := by
  intro s
  unfold deactivateBody
  split
  case h_1 hop => simp [Below, deactivateRank, hop]
  case h_2 hop =>
    split
    case isTrue hmore => simp [Below, deactivateRank, hop, confirmLeft_wait hop _ hmore]
    case isFalse => split <;> simp [Below, deactivateRank, hop]
  case h_3 hop => simp [Below, deactivateRank, hop, confirmLeft_count]
  case h_4 => simp

theorem deactivateBody_not_cancelled (s t : State) : deactivateBody s ≠ .cancelled t := by
  unfold deactivateBody
  split
  case h_2 =>
    split
    · simp
    · split <;> simp
  all_goals simp

/-- R183: the steps left. -/
def sampleRank (s : State) : Rank := rank (14 - s.seq.op) 0 0 0

theorem sampleBody_descends : DescendsInStage sampleRank sampleBody := by
  intro s
  unfold sampleBody snapReads
  split
  · simp [Below, sampleRank]; omega
  · simp

/-- R155, R158: the phase, then the step in it; in the confirmation (phase 2) the line, then its loop. -/
def verifyRank (b : Bus) (s : State) : Rank :=
  if s.seq.phase = 2 then rank 2 (b.base + b.width - s.seq.posk) (confirmLeft 0 s) 0
  else rank (4 - s.seq.phase) (3 - s.seq.op) 0 0

theorem verifyDriveLow_below {b : Bus} {s : State} (top : Bool) (hp : s.seq.phase = 1) :
    Below (verifyRank b) s (verifyDriveLow b top s) := by
  unfold verifyDriveLow
  split <;> simp [Below, verifyRank, *]

theorem verifyConfirm_below {b : Bus} {s : State} (top : Bool) (hp : s.seq.phase = 2) :
    Below (verifyRank b) s (verifyConfirm b top s) := by
  have hnext (u : State) (hu : u.seq = s.seq) (hline : busLine b s < b.width) :
      Below (verifyRank b) s (verifyNextLine b u) := by
    simp only [busLine] at hline
    simp [verifyNextLine, Below, verifyRank, hp, hu]; omega
  unfold verifyConfirm
  split
  case h_1 hop =>
    split
    · simp [Below, verifyRank, hp]
    split
    · exact hnext s rfl (by omega)
    split
    case isTrue hmore => simp [Below, verifyRank, hp, confirmLeft_wait hop _ hmore]
    case isFalse =>
      unfold verifyDecide
      exact hnext _ (by split <;> rfl) (by omega)
  case h_2 hop => simp [Below, verifyRank, hp, confirmLeft_count _ hop]

theorem verifyDriveHigh_below {b : Bus} {s : State} (top : Bool) (hp : s.seq.phase = 3) :
    Below (verifyRank b) s (verifyDriveHigh b top s) := by
  unfold verifyDriveHigh
  split <;> simp [Below, verifyRank, *]

theorem verifyBusBody_descends (b : Bus) (top : Bool) : DescendsInStage (verifyRank b) (verifyBusBody b top) := by
  intro s
  unfold verifyBusBody
  split
  case h_1 hp => simp [Below, verifyRank, hp]
  case h_2 hp => exact verifyDriveLow_below top hp
  case h_3 hp => exact verifyConfirm_below top hp
  case h_4 hp => exact verifyDriveHigh_below top hp
  case h_5 =>
    unfold verifyCleanup
    split <;> simp_all [Below, verifyRank]

/-- R161 phase 3: `G` driven and read (steps 0 to 2), the two write-only signals (steps 3 to 6, at positions 33 and
35), the two read-only signals. -/
def ctrlHighRank (s : State) : Rank :=
  if s.seq.op ≤ 2 then rank 1 (7 - s.seq.op) (30 - s.seq.posk) 0
  else if s.seq.op ≤ 6 then rank 1 (if s.seq.posk = 33 then 4 else 3) (6 - s.seq.op) 0
  else rank 1 0 (if s.seq.posk = 31 then 1 else 0) 0

/-- R161: the phase; in it the step, then the position; in the confirmation the position, then its loop. -/
def ctrlRank (s : State) : Rank :=
  match s.seq.phase with
  | 0 => rank 4 0 0 0
  | 1 => rank 3 (3 - s.seq.op) (30 - s.seq.posk) 0
  | 2 => rank 2 (31 - s.seq.posk) (confirmLeft 0 s) 0
  | 3 => ctrlHighRank s
  | _ => rank 0 (1 - s.seq.op) (30 - s.seq.posk) 0

theorem ctrlDriveLow_below {s : State} (top : Bool) (hp : s.seq.phase = 1) :
    Below ctrlRank s (ctrlDriveLow top s) := by
  unfold ctrlDriveLow
  split
  case h_4 =>
    dsimp only
    split <;> simp [Below, ctrlRank, hp]; omega
  all_goals simp [Below, ctrlRank, *]
  all_goals split <;> omega

theorem ctrlConfirm_below {s : State} (top : Bool) (hp : s.seq.phase = 2) :
    Below ctrlRank s (ctrlConfirm top s) := by
  have hnext (u : State) (hu : u.seq = s.seq) (hpos : s.seq.posk ≤ 30) :
      Below ctrlRank s (ctrlNextLine u) := by
    simp [ctrlNextLine, Below, ctrlRank, hp, hu]; omega
  unfold ctrlConfirm
  split
  case h_1 hop =>
    split
    · simp [Below, ctrlRank, ctrlHighRank, hp]
    split
    · exact hnext s rfl (by omega)
    split
    case isTrue hmore => simp [Below, ctrlRank, hp, confirmLeft_wait hop _ hmore]
    case isFalse =>
      unfold ctrlDecide
      exact hnext _ (by split <;> rfl) (by omega)
  case h_2 hop => simp [Below, ctrlRank, hp, confirmLeft_count _ hop]

theorem ctrlDriveHigh_below {s : State} (top : Bool) (hp : s.seq.phase = 3) :
    Below ctrlRank s (ctrlDriveHigh top s) := by
  unfold ctrlDriveHigh
  split
  case h_1 =>
    by_cases hk : s.seq.posk < 30 <;> simp [Below, ctrlRank, ctrlHighRank, *]; omega
  case h_3 =>
    dsimp only
    split <;> simp [Below, ctrlRank, ctrlHighRank, *]; omega
  case h_7 =>
    dsimp only
    split <;> simp [Below, ctrlRank, ctrlHighRank, *]
  case h_8 =>
    have hop : ¬ s.seq.op ≤ 2 ∧ ¬ s.seq.op ≤ 6 := by grind
    dsimp only
    split <;> simp [Below, ctrlRank, ctrlHighRank, *]
  all_goals simp [Below, ctrlRank, ctrlHighRank, *]

theorem verifyCtrlBody_descends (top : Bool) : DescendsInStage ctrlRank (verifyCtrlBody top) := by
  intro s
  unfold verifyCtrlBody
  split
  case h_1 hp => simp [Below, ctrlPrologue, ctrlRank, hp]
  case h_2 hp => exact ctrlDriveLow_below top hp
  case h_3 hp => exact ctrlConfirm_below top hp
  case h_4 hp => exact ctrlDriveHigh_below top hp
  case h_5 =>
    unfold ctrlCleanup
    split
    case h_1 hop =>
      by_cases hk : s.seq.posk < 30
      · simp_all [Below, ctrlRank]; omega
      · simp [Below, ctrlRank, *]
    case h_2 => simp

/-- R186: the steps of one position, with those of the confirmation loop (18 to 32) counted as one. -/
def xtStepsLeft (op : ℕ) : ℕ := if 18 ≤ op ∧ op ≤ 32 then 17 else 35 - op

/-- R186: the position of the list, then the step; in the confirmation loop its samples, then the reads of one. -/
def crosstalkRank (s : State) : Rank :=
  if s.seq.phase = 0 then rank 34 (16 - s.seq.op) 0 0
  else rank (34 - s.seq.phase) (xtStepsLeft s.seq.op) (confirmLeft 18 s) (32 - s.seq.op)

theorem xtPrologue_below {s : State} (hp : s.seq.phase = 0) : Below crosstalkRank s (xtPrologue s) := by
  unfold xtPrologue snapReads
  split
  case isTrue hop => simp [Below, crosstalkRank, hp, hop]
  case isFalse =>
    split
    · simp [Below, crosstalkRank, hp]; omega
    · simp [Below, crosstalkRank, enterPosition, hp]

/-- Outside the confirmation loop a position goes from step to step. -/
theorem xtStep_below {s u : State} {o : ℕ} (hp : s.seq.phase ≠ 0)
    (hu : u.seq.stage = s.seq.stage ∧ u.seq.phase = s.seq.phase) (ho : xtStepsLeft o < xtStepsLeft s.seq.op) :
    Below crosstalkRank s (u.gotoOp o) := by
  simp [Below, crosstalkRank, hp, hu, ho]

theorem xtTrigger_below {s : State} (hp : s.seq.phase ≠ 0) (hop : s.seq.op = 17) :
    Below crosstalkRank s (xtTrigger s) := by
  unfold xtTrigger
  dsimp only
  split <;> exact xtStep_below hp (by simp) (by simp [hop, xtStepsLeft])

theorem xtConfirm_below {s : State} (hp : s.seq.phase ≠ 0) (hop : s.seq.op = 18) :
    Below crosstalkRank s (if s.sampling then (confirmWait s).gotoOp 19 else xtDecide s) := by
  split
  case isTrue hmore =>
    simp [Below, crosstalkRank, xtStepsLeft, hp, hop, confirmLeft_wait hop _ hmore]
  case isFalse => exact xtStep_below hp (by split <;> simp) (by simp [hop, xtStepsLeft])

theorem xtSampleRead_below {s : State} (hp : s.seq.phase ≠ 0) (hop : 18 < s.seq.op) (hop' : s.seq.op ≤ 31) :
    Below crosstalkRank s ((snapRead (s.seq.op - 19) s).gotoOp (s.seq.op + 1)) := by
  have hloop : xtStepsLeft (s.seq.op + 1) = xtStepsLeft s.seq.op := by
    rw [xtStepsLeft, xtStepsLeft, if_pos (by omega), if_pos (by omega)]
  have hne : s.seq.op ≠ 17 ∧ s.seq.op ≠ 18 := by omega
  simp [Below, crosstalkRank, confirmLeft, hp, hloop, hne]; omega

theorem xtSample_below {s : State} (hp : s.seq.phase ≠ 0) (hop : s.seq.op = 32) :
    Below crosstalkRank s (xtSample s) := by
  simp [xtSample, Below, crosstalkRank, xtStepsLeft, hp, hop, confirmLeft_count]

theorem xtNext_goesOn (top : Bool) {s : State} (hp : s.seq.phase ≠ 0) :
    (xtNext top s).GoesOn (Below crosstalkRank s) := by
  unfold xtNext Config.drivableCount
  split
  · simp [Below, crosstalkRank, enterPosition, hp]; omega
  · simp

theorem xtPosition_goesOn (top : Bool) {s : State} (hp : s.seq.phase ≠ 0) :
    (xtPosition top s).GoesOn (Below crosstalkRank s) := by
  unfold xtPosition
  refine .ite (fun hop => .ite (fun _ => goesOn_cancelled ..) fun _ => ?_) fun _ => ?_
  · exact xtStep_below hp (by simp) (by split <;> simp [hop, xtStepsLeft])
  refine .ite (fun hop => xtStep_below hp (by simp) (by simp [hop, xtStepsLeft])) fun _ => ?_
  refine .ite (fun hop => xtStep_below hp (by simp) (by simp [hop, xtStepsLeft])) fun _ => ?_
  refine .ite (fun hop => xtStep_below hp (by simp) (by unfold xtStepsLeft; split_ifs <;> omega)) fun _ => ?_
  refine .ite (fun hop => xtTrigger_below hp hop) fun _ => ?_
  refine .ite (fun hop => xtConfirm_below hp hop) fun _ => ?_
  refine .ite (fun hop => xtSampleRead_below hp (by omega) hop) fun _ => ?_
  refine .ite (fun hop => xtSample_below hp hop) fun _ => ?_
  refine .ite (fun hop => xtStep_below hp (by simp) (by split <;> simp [hop, xtStepsLeft])) fun _ => ?_
  refine .ite (fun hop => xtStep_below hp (by simp) (by simp [hop, xtStepsLeft])) fun _ => ?_
  exact xtNext_goesOn top hp

theorem crosstalkBody_descends (top : Bool) : DescendsInStage crosstalkRank (crosstalkBody top) := by
  intro s
  unfold crosstalkBody
  split
  case h_1 hp => exact xtPrologue_below hp
  case h_2 hp => exact xtPosition_goesOn top (by omega)

/-! ### The memory algorithms -/

/-- The cells a pass at `POSK = k` has left (R94), counted up from `k` or down to 0. -/
def cellsLeft : PassDir → ℕ → ℕ
  | .asc, k => Config.passEnd - k
  | .desc, k => if k < Config.passEnd then k + 1 else 0

theorem cellsLeft_next {k : ℕ} (d : PassDir) (len : ℕ) (hk : k < Config.passEnd) :
    cellsLeft d (d.next len k) < cellsLeft d k := by
  cases d with
  | asc =>
    simp only [cellsLeft, PassDir.next]
    split <;> omega
  | desc =>
    simp only [cellsLeft, PassDir.next]
    split
    · simp
    · rw [if_pos (by omega)]; omega

/-- The reads `rstop` (R250) can still make of a cell: `RDCNT` counts them, from 0 where `SAMPLE` is 0. -/
def readsLeft (s : State) : ℕ := 255 - if s.seq.sample = 0 then 0 else s.work.rdcnt.toNat

/-- The operand counts of a phase fit the 8 bits of `RDCNT`, so that it reaches them (R122, R250, R312). -/
def MemPhase.CountsFit : MemPhase → Prop
  | .pass _ ops => ∀ v n, .rstop v n ∈ ops → n < 256
  | .wait _ n => n < 256

/-- The rank in phase `p`, with `a` phases left: the cells, the operations and the reads, or the delays. -/
def phaseRank (p : Option MemPhase) (a : ℕ) (s : State) : Rank :=
  match p with
  | some (.pass d ops) => rank a (cellsLeft d s.seq.posk) (ops.length - s.seq.op) (readsLeft s)
  | some (.wait _ n) => rank a (n - s.work.rdcnt.toNat) 0 0
  | none => rank a 0 0 0

theorem phaseRank_lt {a a' : ℕ} (h : a < a') (p p' : Option MemPhase) (s s' : State) :
    phaseRank p a s < phaseRank p' a' s' := by
  unfold phaseRank
  split <;> split <;> simp [h]

/-- R232: the phases left, then the rank in the phase `PHASE` is at. -/
def memRank (phases : List MemPhase) (s : State) : Rank :=
  phaseRank phases[s.seq.phase - 1]? (phases.length + 1 - s.seq.phase) s

/-- The same call of the same stage, under the same configuration. -/
def SameCall (s t : State) : Prop :=
  t.cfg = s.cfg ∧ t.seq.stage = s.seq.stage ∧ t.seq.call = s.seq.call

/-- Lower in the same phase of the same call. -/
def BelowInPhase (p : MemPhase) (s t : State) : Prop :=
  SameCall s t ∧ t.seq.phase = s.seq.phase ∧ ∀ a, phaseRank (some p) a t < phaseRank (some p) a s

theorem nextCell_below {d : PassDir} {s u : State} (ops : List CellOp) (hk : s.seq.posk < Config.passEnd)
    (hseq : u.seq = s.seq) (hcfg : u.cfg = s.cfg) : BelowInPhase (.pass d ops) s (nextCell d u) := by
  simp [BelowInPhase, SameCall, nextCell, phaseRank, hseq, hcfg, cellsLeft_next d _ hk]

theorem nextOp_below {d : PassDir} {ops : List CellOp} {s u : State} (hk : s.seq.posk < Config.passEnd)
    (hseq : u.seq = s.seq) (hcfg : u.cfg = s.cfg) : BelowInPhase (.pass d ops) s (nextOp d ops u) := by
  unfold nextOp
  split
  · simp_all [BelowInPhase, SameCall, phaseRank]; omega
  · exact nextCell_below ops hk hseq hcfg

theorem rstopTurn_below {d : PassDir} {ops : List CellOp} {n : ℕ} {s : State} (v : CellVal)
    (hk : s.seq.posk < Config.passEnd) (hn : n < 256) :
    BelowInPhase (.pass d ops) s (rstopTurn d ops v n s) := by
  obtain ⟨-, h⟩ | ⟨-, -, h⟩ | ⟨hlt, -, h⟩ := rstopTurn_cases d ops v n s <;> rw [h]
  · exact nextOp_below hk (by simp) (by simp)
  · exact nextOp_below hk (by simp) (by simp)
  · have hcount : (rstopBegin s).work.rdcnt.toNat = if s.seq.sample = 0 then 0 else s.work.rdcnt.toNat := by
      rw [rstopBegin_eq]; exact apply_ite BitVec.toNat ..
    have hreads : readsLeft (readAgain (countRead (cellFetch v (rstopBegin s)))) < readsLeft s := by
      simp [readsLeft, readAgain, countRead_eq, cellFetch_eq, ← hcount]; omega
    simp [BelowInPhase, SameCall, phaseRank, hreads]

theorem passStep_below {d : PassDir} {ops : List CellOp} {s : State} (hk : s.seq.posk < Config.passEnd)
    (hfit : (MemPhase.pass d ops).CountsFit) : BelowInPhase (.pass d ops) s (passStep d ops s) := by
  unfold passStep
  split
  case h_2 => exact nextCell_below ops hk rfl rfl
  case h_1 o ho =>
    cases o with
    | w v =>
      change BelowInPhase _ s (nextOp d ops (cellWrite v s))
      exact nextOp_below hk (cellWrite_place s v).1 (cellWrite_place s v).2
    | r v =>
      change BelowInPhase _ s (nextOp d ops (cellRead v s))
      exact nextOp_below hk (cellRead_place s v).1 (cellRead_place s v).2
    | rd =>
      change BelowInPhase _ s (nextOp d ops (cellReadDiscard s))
      exact nextOp_below hk (cellReadDiscard_place s).1 (cellReadDiscard_place s).2
    | rstop v n => exact rstopTurn_below v hk (hfit v n (List.mem_of_getElem? ho))

theorem waitStep_below {n : ℕ} {s : State} (ms : ℕ) (h : s.work.rdcnt.toNat < n) (hn : n < 256) :
    BelowInPhase (.wait ms n) s (waitStep ms s) := by
  simp [BelowInPhase, SameCall, waitStep, countRead_eq, delayMs_eq, phaseRank]
  omega

/-- A step of a memory algorithm stays in its call, is past the prologue, and is lower. -/
theorem memBody_goesOn {phases : List MemPhase} (hfit : ∀ p ∈ phases, p.CountsFit) (top : Bool)
    (pat : Option Byte) (s : State) :
    (memBody top pat phases s).GoesOn fun t =>
      SameCall s t ∧ t.seq.phase ≠ 0 ∧ memRank phases t < memRank phases s := by
  obtain ⟨hp, h⟩ | ⟨j, -, -, h⟩ | ⟨j, d, ops, hp, hj, hk, h⟩ | ⟨j, ms, n, hp, hj, hlt, h⟩ | ⟨j, p, hp, hj, h⟩ :=
    memBody_cases top pat phases s <;> rw [h]
  · refine ⟨?_, ?_, phaseRank_lt ?_ ..⟩ <;> simp [SameCall, enterPhase_eq, clearTr, loadPattern, hp]
  · simp
  · obtain ⟨hcall, hphase, hrank⟩ := passStep_below hk (hfit _ (List.mem_of_getElem? hj))
    simp [memRank, hcall, hphase, hp, hj, hrank]
  · obtain ⟨hcall, hphase, hrank⟩ := waitStep_below ms hlt (hfit _ (List.mem_of_getElem? hj))
    simp [memRank, hcall, hphase, hp, hj, hrank]
  · unfold endPhase
    split
    · refine ⟨?_, ?_, phaseRank_lt ?_ ..⟩ <;> simp [SameCall, enterPhase_eq, hp]; omega
    · simp

theorem memBody_ended {top : Bool} {pat : Option Byte} {phases : List MemPhase} {s t : State}
    (h : memBody top pat phases s = .ended t) : t.seq = s.seq := by
  obtain ⟨_, h'⟩ | ⟨_, _, _, h'⟩ | ⟨_, _, _, _, _, _, h'⟩ | ⟨_, _, _, _, _, _, h'⟩ | ⟨j, _, _, _, h'⟩ :=
    memBody_cases top pat phases s <;> rw [h'] at h
  · cases h
  · cases h; rfl
  · cases h
  · cases h
  · unfold endPhase at h
    split at h <;> cases h
    exact (phaseEnd_place s top _ _).1

theorem memBody_descends {phases : List MemPhase} (hfit : ∀ p ∈ phases, p.CountsFit) (top : Bool)
    (pat : Option Byte) : Descends (memRank phases) (memBody top pat phases) :=
  fun s => (memBody_goesOn hfit top pat s).mono fun _ ht => ht.2.2

/-- The operand `P` and the phases of a memory algorithm. -/
def memTable : Instr → Option (Option Byte × List MemPhase)
  | .repwrite p t => some (some p, repwriteTable p t)
  | .repread p => some (some p, repreadTable p)
  | .checker t => some (none, checkerTable t)
  | .walk1 => some (none, walkTable CellVal.walk1)
  | .walk0 => some (none, walkTable CellVal.walk0)
  | .marchc => some (none, marchcTable)
  | .marchss => some (none, marchssTable)
  | .marchla => some (none, marchlaTable)
  | .movinv p => some (some p, movinvTable p)
  | .retention p d n => some (some p, retentionTable p d n)
  | .readdestr p n => some (some p, readdestrTable p n)
  | .addruniq p => some (some p, addruniqTable p)
  | .nop | .activate | .deactivate | .clear | .verifyData | .verifyAddr | .verifyCtrl | .sample
  | .crosstalk | .suite | .fullpass => none

theorem memTable_countsFit {i : Instr} {pat : Option Byte} {phases : List MemPhase} (hi : i.wellFormed = true)
    (h : memTable i = some (pat, phases)) : ∀ p ∈ phases, p.CountsFit := by
  cases i <;> cases h
  case retention p d n =>
    have hn : n < 256 := by simp_all [Instr.wellFormed]
    simp [retentionTable, MemPhase.CountsFit, hn]
  case readdestr p n =>
    have hn : n < 256 := by simpa [Instr.wellFormed] using hi
    simp [readdestrTable, MemPhase.CountsFit, hn]
  all_goals simp [repwriteTable, repreadTable, checkerTable, walkTable, walkOrder, marchcTable, marchssTable,
    marchlaTable, movinvTable, addruniqTable, MemPhase.CountsFit, w0, w1, r0, r1]

theorem bodyOf_of_memTable {i : Instr} {pat : Option Byte} {phases : List MemPhase}
    (h : memTable i = some (pat, phases)) : bodyOf i = memBody true pat phases := by
  cases i <;> cases h <;> rfl

theorem memAlgorithmBody_of_memTable {i : Instr} {pat : Option Byte} {phases : List MemPhase}
    (h : memTable i = some (pat, phases)) (s : State) : memAlgorithmBody i s = memBody false pat phases s := by
  cases i <;> cases h <;> rfl

theorem memAlgorithmBody_of_none {i : Instr} (h : memTable i = none) (s : State) :
    memAlgorithmBody i s = .ended s := by
  revert h
  cases i <;> simp [memTable, memAlgorithmBody]

/-! ### SUITE -/

/-- The rank of a call; a call of no memory algorithm ends at once. -/
def callRank (i : Instr) (s : State) : Rank :=
  match memTable i with
  | some (_, phases) => memRank phases s
  | none => rank 0 0 0 0

theorem memAlgorithmBody_goesOn {i : Instr} (hi : i.wellFormed = true) (s : State) :
    (memAlgorithmBody i s).GoesOn fun t =>
      SameCall s t ∧ t.seq.phase ≠ 0 ∧ callRank i t < callRank i s := by
  unfold callRank
  cases h : memTable i with
  | none => simp [memAlgorithmBody_of_none h]
  | some row =>
    rw [memAlgorithmBody_of_memTable h]
    exact memBody_goesOn (memTable_countsFit hi h) false row.1 s

theorem memAlgorithmBody_ended {i : Instr} {s t : State} (h : memAlgorithmBody i s = .ended t) :
    t.seq = s.seq := by
  cases hi : memTable i with
  | none => rw [memAlgorithmBody_of_none hi] at h; cases h; rfl
  | some row => exact memBody_ended ((memAlgorithmBody_of_memTable hi s).symm.trans h)

theorem suiteCall_wellFormed (c : Cfg) (k : ℕ) : (suiteCall c k).wellFormed = true := by
  have hrow : ∀ i ∈ suiteTable c, i.wellFormed = true := by
    simp [suiteTable, Instr.wellFormed, c.rdReads.isLt, c.retDelayMs.isLt, c.retRepeat.isLt]
  unfold suiteCall
  rw [List.getD_eq_getElem?_getD]
  cases h : (suiteTable c)[k]? with
  | none => rfl
  | some i => exact hrow i (List.mem_of_getElem? h)

/-- R327: the prologue, then the calls left, then the rank of the running call. -/
def suiteRank (s : State) : ℕ ×ₗ Rank :=
  toLex (if s.seq.phase = 0 ∧ s.seq.op = 0 then 20 else 19 - s.seq.call, callRank (suiteCall s.cfg s.seq.call) s)

theorem callStep_goesOn (top : Bool) {s : State} (hs : ¬ (s.seq.phase = 0 ∧ s.seq.op = 0)) :
    (callStep top s).GoesOn (Below suiteRank s) := by
  have h := memAlgorithmBody_goesOn (suiteCall_wellFormed s.cfg s.seq.call) s
  unfold callStep
  cases hr : memAlgorithmBody (suiteCall s.cfg s.seq.call) s with
  | more t =>
    rw [hr] at h
    obtain ⟨⟨hcfg, hstage, hcall⟩, hphase, hlt⟩ := h
    simp [Below, suiteRank, Prod.Lex.toLex_lt_toLex, *]
  | ended t =>
    have hseq := memAlgorithmBody_ended hr
    simp only [endCall, Config.suiteCalls]
    by_cases hlast : t.seq.call + 1 < 19
    · rw [hseq] at hlast
      simp [Below, suiteRank, Prod.Lex.toLex_lt_toLex, hseq, hlast, if_neg hs]; omega
    · simp [hlast]
  | cancelled t => simp
  | fatal t => simpa [hr] using h

theorem suiteBody_descends (top : Bool) : DescendsInStage suiteRank (suiteBody top) := by
  intro s
  unfold suiteBody
  split
  case isTrue h => simp [Below, suiteRank, suitePrologue, h, Prod.Lex.toLex_lt_toLex]
  case isFalse h =>
    split
    · simp
    · exact callStep_goesOn top h

/-! ### FULLPASS -/

/-- A rank of a body without calls among the ranks of stages. -/
def noCalls (ρ : State → Rank) (s : State) : ℕ ×ₗ Rank := toLex (0, ρ s)

theorem DescendsInStage.noCalls {ρ : State → Rank} {body : State → BodyStep} (h : DescendsInStage ρ body) :
    DescendsInStage (noCalls ρ) body :=
  fun s => (h s).mono fun _ ht => ⟨ht.1, Prod.Lex.toLex_lt_toLex.mpr (.inr ⟨rfl, ht.2⟩)⟩

/-- R330: the rank in a stage. -/
def stageRank : ℕ → State → ℕ ×ₗ Rank
  | 1 => noCalls activateRank
  | 2 => noCalls (verifyRank .data)
  | 3 => noCalls (verifyRank .address)
  | 4 => noCalls ctrlRank
  | 5 => noCalls crosstalkRank
  | 6 => suiteRank
  | _ => noCalls deactivateRank

theorem stageBody_descends : ∀ st, DescendsInStage (stageRank st) (stageBody st)
  | 1 => activateBody_descends.noCalls
  | 2 => (verifyBusBody_descends .data false).noCalls
  | 3 => (verifyBusBody_descends .address false).noCalls
  | 4 => (verifyCtrlBody_descends false).noCalls
  | 5 => (crosstalkBody_descends false).noCalls
  | 6 => suiteBody_descends false
  | 0 | _ + 7 => deactivateBody_descends.noCalls

/-- A stage that can end cancelled is before the deactivation. -/
theorem stageBody_cancelled {st : ℕ} {s t : State} (h : stageBody st s = .cancelled t) : st < 7 := by
  by_contra hst
  unfold stageBody at h
  split at h
  case h_7 => exact deactivateBody_not_cancelled s t h
  all_goals omega

/-- R330: the stages left, then the rank in the stage. -/
def fullpassRank (s : State) : ℕ ×ₗ ℕ ×ₗ Rank := toLex (8 - s.seq.stage, stageRank s.seq.stage s)

theorem fullpassRank_enterStage {s : State} (t : State) {st : ℕ} (h : s.seq.stage < st) (hst : st ≤ 7) :
    fullpassRank (enterStage st t) < fullpassRank s := by
  simp [fullpassRank, enterStage, Prod.Lex.toLex_lt_toLex]; omega

theorem stageStep_goesOn (s : State) : (stageStep s).GoesOn fun t => fullpassRank t < fullpassRank s := by
  have h := stageBody_descends s.seq.stage s
  unfold stageStep
  cases hr : stageBody s.seq.stage s with
  | more t =>
    rw [hr] at h
    obtain ⟨hstage, hlt⟩ := h
    simp [fullpassRank, Prod.Lex.toLex_lt_toLex, *]
  | ended t =>
    dsimp only
    split
    · exact fullpassRank_enterStage _ (by omega) (by omega)
    · split <;> simp
  | cancelled t => exact fullpassRank_enterStage _ (stageBody_cancelled hr) le_rfl
  | fatal t => simpa [hr] using h

theorem fullpassBody_descends : Descends fullpassRank fullpassBody := by
  intro s
  unfold fullpassBody
  split
  · exact fullpassRank_enterStage _ (by omega) (by omega)
  split
  case isTrue h =>
    have : s.seq.stage < 7 := by simp_all [cancelStage]; omega
    exact fullpassRank_enterStage _ this le_rfl
  · exact stageStep_goesOn s

/-- Settles O60: each command has a rank that every step of its body lowers. -/
theorem everyCommandEnds : Obligations.EveryCommandEnds := by
  unfold Obligations.EveryCommandEnds
  intro i s hi _
  cases h : memTable i with
  | some row =>
    have hd := memBody_descends (memTable_countsFit hi h) true row.1
    rw [← bodyOf_of_memTable h] at hd
    exact ends_of_descends hd s
  | none =>
    cases i with
    | nop => exact ends_of_descends (i := .nop) (ρ := fun _ => 0) (fun _ => trivial) s
    | clear => exact ends_of_descends (i := .clear) (ρ := fun _ => 0) (fun _ => trivial) s
    | activate => exact ends_of_descends (i := .activate) activateBody_descends.descends s
    | deactivate => exact ends_of_descends (i := .deactivate) deactivateBody_descends.descends s
    | verifyData => exact ends_of_descends (i := .verifyData) (verifyBusBody_descends .data true).descends s
    | verifyAddr => exact ends_of_descends (i := .verifyAddr) (verifyBusBody_descends .address true).descends s
    | verifyCtrl => exact ends_of_descends (i := .verifyCtrl) (verifyCtrlBody_descends true).descends s
    | sample => exact ends_of_descends (i := .sample) sampleBody_descends.descends s
    | crosstalk => exact ends_of_descends (i := .crosstalk) (crosstalkBody_descends true).descends s
    | suite => exact ends_of_descends (i := .suite) (suiteBody_descends true).descends s
    | fullpass => exact ends_of_descends (i := .fullpass) fullpassBody_descends s
    | _ => cases h

end Sys2Proof.Machine
end

section
/-! SUPPORT. A decoded word, encoded and decoded again (R120 to R124). -/

namespace Sys2Proof

/-- R121: a mask by its fields, in the order of `packWord`. -/
def packMask (p : Byte) (t : Bool) (n : Byte) (d : BitVec 16) : Word64 :=
  0xFFFF#16 ++ d ++ n ++ 0x7F#7 ++ BitVec.ofBool t ++ p ++ 0xFF#8

theorem packWord_and_packMask (op p p' : Byte) (t t' : Bool) (n n' : Byte) (d d' : BitVec 16) :
    packWord op p t n d &&& packMask p' t' n' d' = packWord op (p &&& p') (t && t') (n &&& n') (d &&& d') := by
  have hop : op &&& 0xFF#8 = op := BitVec.and_allOnes
  have ht : BitVec.ofBool t &&& BitVec.ofBool t' = BitVec.ofBool (t && t') := by cases t <;> cases t' <;> rfl
  unfold packWord packMask
  erw [BitVec.and_append, BitVec.and_append, BitVec.and_append, BitVec.and_append, BitVec.and_append,
    BitVec.and_append, hop, ht]
  rfl

theorem packWord_opcode (op : Byte) : packWord op 0#8 false 0#8 0#16 = op.setWidth 64 := by
  apply BitVec.eq_of_getLsbD_eq
  intro k hk
  have hop : op.getLsbD k = true → k < 8 := BitVec.lt_of_getLsbD
  rw [packWord_bit]
  simpa [hk] using hop

/-- R121: a mask has zeros at the operand fields of its format and ones elsewhere. -/
theorem Format.mask_eq (f : Format) : f.mask = match f with
    | .z => packMask 0xFF#8 true 0xFF#8 0xFFFF#16
    | .p => packMask 0#8 true 0xFF#8 0xFFFF#16
    | .t => packMask 0xFF#8 false 0xFF#8 0xFFFF#16
    | .pt => packMask 0#8 false 0xFF#8 0xFFFF#16
    | .pn => packMask 0#8 true 0#8 0xFFFF#16
    | .pdn => packMask 0#8 true 0#8 0#16 := by
  cases f <;> decide

/-- A word decodes to the command of its row when its operand bits are those of the row's format. -/
theorem decode_of_row {w : Word64} {f : Format} {i : Instr} (hrow : rowOf w = some (f, i))
    (hmask : w &&& f.mask = (fieldOp w).setWidth 64) : decode w = .ok i := by
  simp [decode, hrow, hmask]

theorem decode_encode {i : Instr} (hi : i.wellFormed = true) : decode (encode i) = .ok i := by
  have hrow : rowOf (encode i) = some (i.format, i) := by
    cases i <;> simp_all [rowOf, encode, packWord_fields, Instr.opcode, Instr.format, Instr.wellFormed]
  have hmask : encode i &&& i.format.mask = packWord i.opcode 0#8 false 0#8 0#16 := by
    cases i <;> simp [encode, Instr.format, Format.mask_eq, packWord_and_packMask]
  have hop : fieldOp (encode i) = i.opcode := by cases i <;> simp [encode, packWord_fields]
  exact decode_of_row hrow (by rw [hmask, hop, packWord_opcode])

theorem fieldN_lt (w : Word64) : fieldN w < 256 := BitVec.isLt _
theorem fieldD_lt (w : Word64) : fieldD w < 65536 := BitVec.isLt _

theorem wellFormed_of_decode {w : Word64} {i : Instr} (h : decode w = .ok i) : i.wellFormed = true := by
  obtain ⟨f, hrow⟩ : ∃ f, rowOf w = some (f, i) := by
    unfold decode at h
    split at h
    · cases h
    · split at h <;> cases h
      exact ⟨_, by assumption⟩
  unfold rowOf at hrow
  split at hrow <;> cases hrow <;> simp [Instr.wellFormed, fieldN_lt, fieldD_lt]

/-- The word acceptance keeps in `LASTCMD` (R129) decodes to the command accepted. -/
theorem decode_encode_of_decode {w : Word64} {i : Instr} (h : decode w = .ok i) : decode (encode i) = .ok i :=
  decode_encode (wellFormed_of_decode h)

end Sys2Proof
end

section
/-! SUPPORT. A step of the machine, once for every invariant: the host's side changes, the engine is reset, it
accepts a command, or the running command takes a step. -/

namespace Sys2Proof.Machine
open Sys2Proof

/-- The state without the host's side: the registers a host action may store into, and the model's record of the
host (R58 to R62). -/
def State.core (s : State) : State :=
  { s with
    err := .none, cancelReq := false, cfg := .reset, region := { start := 0#16, length := 0#32 }
    icRef := vec8 fun _ => 0#32, draws := 0, host := [], replies := [] }

/-- States with the same core agree on every part of it. -/
theorem eq_of_core {α : Type} {s t : State} (h : t.core = s.core) (f : State → α)
    (hf : ∀ u : State, f u.core = f u := by intro u; rfl) : f t = f s := by
  rw [← hf, h, hf]

theorem hostRead_core (index : Nat) (s : State) : (hostRead index s).core = s.core := by
  unfold hostRead
  split
  · rfl
  · split <;> rfl

theorem storeReg_core {r : RegId} {v : Word64} {s t : State} (h : storeReg r v s = some t) : t.core = s.core := by
  cases r <;> cases h <;> rfl

theorem busyWrite_core (index : Nat) (v : Word64) (s : State) : (busyWrite index v s).core = s.core := by
  unfold busyWrite
  split <;> rfl

theorem hostWrite_core {index : Nat} {v : Word64} {s t : State} (h : hostWrite index v s = .now t) :
    t.core = s.core := by
  unfold hostWrite at h
  split at h
  · cases h; rfl
  split at h
  · cases h; exact busyWrite_core ..
  unfold idleWrite at h
  split at h
  · cases h; rfl
  · unfold cmdWrite at h
    split at h <;> cases h <;> rfl
  · split at h <;> cases h
    · exact storeReg_core (by assumption)
    · rfl

/-- What one step of the machine does to the engine. `u` is `s` with the host's action taken off its list. -/
inductive Turn (s t u : State) : Prop
  /-- the host's side alone changes, or nothing -/
  | host (h : t.core = u.core)
  /-- R390 -/
  | reset (rest : List HostAct) (hs : s.host = .reset :: rest) (h : t = resetEngine u)
  /-- R127, R129: a command is accepted -/
  | accepted (i : Instr) (hidle : u.Idle) (hmode : modeAllows i u.mode = true) (hword : decode (encode i) = .ok i)
      (h : t = accept (encode i) u)
  /-- the running command takes a step -/
  | ran (i : Instr) (hruns : u.Runs i) (h : t = finish (bodyOf i u))

theorem engineStep_turn {s t u : State} (h : engineStep u = .next t) : Turn s t u := by
  obtain ⟨hm, ⟨-, rfl⟩ | ⟨hb, i, hi, hexec⟩⟩ := engineStep_next h
  · exact .host rfl
  · rw [exec_running hb hm] at hexec
    cases hexec
    exact .ran i ⟨⟨hb, hm⟩, hi⟩ rfl

theorem writeStep_turn {index : Nat} {v : Word64} {s t u : State} (h : writeStep index v u = .next t) :
    Turn s t u := by
  obtain hnow | ⟨i, hpresent, hexec⟩ := writeStep_next h
  · exact .host (hostWrite_core hnow)
  · obtain ⟨hm, hb, hi⟩ := hostWrite_present hpresent
    rw [exec_idle hb hm] at hexec
    cases hexec
    obtain ⟨hmode, -, -, h⟩ | ⟨c, -, h⟩ := present_cases i u <;> rw [h]
    · exact .accepted i ⟨hb, hm⟩ hmode (decode_encode_of_decode hi) rfl
    · exact .host rfl

theorem step_turn {s t : State} (h : step s = .next t) : ∃ u, u.core = s.core ∧ Turn s t u := by
  obtain ⟨-, h⟩ | ⟨a, rest, hs, h⟩ := step_next h
  · exact ⟨s, rfl, engineStep_turn h⟩
  refine ⟨{ s with host := rest }, rfl, ?_⟩
  obtain ⟨-, h⟩ | ⟨index, v, -, h⟩ | ⟨index, -, rfl⟩ | ⟨rfl, rfl⟩ := h
  · unfold idleTurn at h
    split at h
    · cases h; exact .host rfl
    · exact engineStep_turn h
  · exact writeStep_turn h
  · exact .host (hostRead_core ..)
  · exact .reset rest hs rfl

/-- An invariant of the engine is kept by every step of the machine when a reset, an acceptance and every step of a
running command keep it. -/
theorem kept_by_step {Inv : State → Prop} (hcore : ∀ {s t : State}, t.core = s.core → Inv s → Inv t)
    (hreset : ∀ s, Inv s → Inv (resetEngine s))
    (haccept : ∀ s i, Inv s → s.Idle → modeAllows i s.mode = true → decode (encode i) = .ok i →
      Inv (accept (encode i) s))
    (hrun : ∀ s i, Inv s → s.Runs i → Inv (finish (bodyOf i s)))
    {s t : State} (hs : Inv s) (h : step s = .next t) : Inv t := by
  obtain ⟨u, hu, hturn⟩ := step_turn h
  have hInv : Inv u := hcore hu hs
  cases hturn with
  | host h => exact hcore h hInv
  | reset _ _ h => exact h ▸ hreset u hInv
  | accepted i hidle hmode hword h => exact h ▸ haccept u i hInv hidle hmode hword
  | ran i hruns h => exact h ▸ hrun u i hInv hruns

end Sys2Proof.Machine
end

section
/-! SUPPORT. The frame of every operation: what it leaves, one lemma per operation, for `simp`. -/

namespace Sys2Proof.Machine
open Sys2Proof

/-- What no operation of a body writes but the ends of the activation protocol: mode and status, the host's side,
the command. -/
def State.fixed (s : State) : State :=
  { s with
    progress := 0#7, pins := .reset, res := .zero, seq := .start, work := .reset
    trace := [], answers := [], answered := 0 }

/-- The trace and the environment's answers (R96, R98). -/
structure Io where
  trace : List Event
  answers : List (BitVec 16)
  answered : Nat

/-- The part of the state the environment sees. -/
def State.io (s : State) : Io := ⟨s.trace, s.answers, s.answered⟩

/-- R99: nothing, one operation, or one read, which takes an answer. -/
inductive IoStep (a : Io) : Io → Prop
  | silent : IoStep a a
  | operation (e : Event) : IoStep a { a with trace := e :: a.trace }
  | read (e : Event) : IoStep a ⟨e :: a.trace, a.answers.tail, a.answered + 1⟩

@[simp] theorem ioStep_refl (a : Io) : IoStep a a := .silent

theorem IoStep.parts {a b : Io} (h : IoStep a b) :
    (b.trace = a.trace ∨ ∃ e, b.trace = e :: a.trace) ∧
    (b.answers = a.answers ∧ b.answered = a.answered ∨
      b.answers = a.answers.tail ∧ b.answered = a.answered + 1) := by
  cases h with
  | silent => exact ⟨.inl rfl, .inl ⟨rfl, rfl⟩⟩
  | operation e => exact ⟨.inr ⟨e, rfl⟩, .inl ⟨rfl, rfl⟩⟩
  | read e => exact ⟨.inr ⟨e, rfl⟩, .inr ⟨rfl, rfl⟩⟩

/-- Equal frames agree on every part of the frame. -/
theorem eq_of_fixed {α : Type} {s t : State} (h : t.fixed = s.fixed) (f : State → α)
    (hf : ∀ u : State, f u.fixed = f u := by intro u; rfl) : f t = f s := by
  rw [← hf, h, hf]

section
variable (s : State)

/-! ### Updates of one field -/

@[simp] theorem setPins_frame (p : Pins) : (s.setPins p).fixed = s.fixed ∧ (s.setPins p).io = s.io := ⟨rfl, rfl⟩
@[simp] theorem setWork_frame (w : Work) : (s.setWork w).fixed = s.fixed ∧ (s.setWork w).io = s.io := ⟨rfl, rfl⟩
@[simp] theorem setRes_frame (r : Results) : (s.setRes r).fixed = s.fixed ∧ (s.setRes r).io = s.io := ⟨rfl, rfl⟩
@[simp] theorem setSeq_frame (q : Seq) : (s.setSeq q).fixed = s.fixed ∧ (s.setSeq q).io = s.io := ⟨rfl, rfl⟩
@[simp] theorem setProgress_frame (v : BitVec 7) :
    (s.setProgress v).fixed = s.fixed ∧ (s.setProgress v).io = s.io := ⟨rfl, rfl⟩
@[simp] theorem setMode_frame (m : Mode) :
    (s.setMode m).fixed = s.fixed.setMode m ∧ (s.setMode m).io = s.io := ⟨rfl, rfl⟩
@[simp] theorem raiseFatal_frame (c : FatalCause) :
    (raiseFatal c s).fixed = raiseFatal c s.fixed ∧ (raiseFatal c s).io = s.io := ⟨rfl, rfl⟩
@[simp] theorem gotoOp_frame (o : Nat) : (s.gotoOp o).fixed = s.fixed ∧ (s.gotoOp o).io = s.io := ⟨rfl, rfl⟩
@[simp] theorem gotoPhase_frame (p k : Nat) :
    (s.gotoPhase p k).fixed = s.fixed ∧ (s.gotoPhase p k).io = s.io := ⟨rfl, rfl⟩
@[simp] theorem gotoPos_frame (k o : Nat) :
    (s.gotoPos k o).fixed = s.fixed ∧ (s.gotoPos k o).io = s.io := ⟨rfl, rfl⟩

/-! ### The bus operations: those on the pins write `PINS` and the trace -/

@[simp] theorem dataDir_frame (d : Dir) :
    (dataDir d s).fixed = s.fixed ∧ (dataDir d s).res = s.res ∧ (dataDir d s).progress = s.progress ∧
    (dataDir d s).work = s.work ∧ IoStep s.io (dataDir d s).io := ⟨rfl, rfl, rfl, rfl, .operation _⟩
@[simp] theorem dataWrite_frame (v : Byte) :
    (dataWrite v s).fixed = s.fixed ∧ (dataWrite v s).res = s.res ∧ (dataWrite v s).progress = s.progress ∧
    (dataWrite v s).work = s.work ∧ IoStep s.io (dataWrite v s).io := ⟨rfl, rfl, rfl, rfl, .operation _⟩
@[simp] theorem addrDir_frame (d : Dir) :
    (addrDir d s).fixed = s.fixed ∧ (addrDir d s).res = s.res ∧ (addrDir d s).progress = s.progress ∧
    (addrDir d s).work = s.work ∧ IoStep s.io (addrDir d s).io := ⟨rfl, rfl, rfl, rfl, .operation _⟩
@[simp] theorem addrWrite_frame (v : Addr) :
    (addrWrite v s).fixed = s.fixed ∧ (addrWrite v s).res = s.res ∧ (addrWrite v s).progress = s.progress ∧
    (addrWrite v s).work = s.work ∧ IoStep s.io (addrWrite v s).io := ⟨rfl, rfl, rfl, rfl, .operation _⟩
@[simp] theorem ctlDir_frame (g : Sig) (d : Dir) :
    (ctlDir g d s).fixed = s.fixed ∧ (ctlDir g d s).res = s.res ∧ (ctlDir g d s).progress = s.progress ∧
    (ctlDir g d s).work = s.work ∧ IoStep s.io (ctlDir g d s).io := ⟨rfl, rfl, rfl, rfl, .operation _⟩
@[simp] theorem ctlWrite_frame (g : Sig) (b : Bool) :
    (ctlWrite g b s).fixed = s.fixed ∧ (ctlWrite g b s).res = s.res ∧ (ctlWrite g b s).progress = s.progress ∧
    (ctlWrite g b s).work = s.work ∧ IoStep s.io (ctlWrite g b s).io := ⟨rfl, rfl, rfl, rfl, .operation _⟩

@[simp] theorem busDir_frame (b : Bus) (d : Dir) :
    (busDir b d s).fixed = s.fixed ∧ (busDir b d s).res = s.res ∧ (busDir b d s).progress = s.progress ∧
    (busDir b d s).work = s.work ∧ IoStep s.io (busDir b d s).io := by cases b <;> simp [busDir]
@[simp] theorem busWrite_frame (b : Bus) (v : BitVec 16) :
    (busWrite b v s).fixed = s.fixed ∧ (busWrite b v s).res = s.res ∧
    (busWrite b v s).progress = s.progress ∧ (busWrite b v s).work = s.work ∧
    IoStep s.io (busWrite b v s).io := by cases b <;> simp [busWrite]

@[simp] theorem driveFirst_frame (p : Nat) :
    (driveFirst p s).fixed = s.fixed ∧ (driveFirst p s).res = s.res ∧
    (driveFirst p s).progress = s.progress ∧ (driveFirst p s).work = s.work ∧
    IoStep s.io (driveFirst p s).io := by unfold driveFirst; split <;> simp
@[simp] theorem driveSecond_frame (p : Nat) :
    (driveSecond p s).fixed = s.fixed ∧ (driveSecond p s).res = s.res ∧
    (driveSecond p s).progress = s.progress ∧ (driveSecond p s).work = s.work ∧
    IoStep s.io (driveSecond p s).io := by unfold driveSecond; split <;> simp
@[simp] theorem releaseFirst_frame (p : Nat) :
    (releaseFirst p s).fixed = s.fixed ∧ (releaseFirst p s).res = s.res ∧
    (releaseFirst p s).progress = s.progress ∧ (releaseFirst p s).work = s.work ∧
    IoStep s.io (releaseFirst p s).io := by unfold releaseFirst; split <;> simp
@[simp] theorem releaseSecond_frame (p : Nat) :
    (releaseSecond p s).fixed = s.fixed ∧ (releaseSecond p s).res = s.res ∧
    (releaseSecond p s).progress = s.progress ∧ (releaseSecond p s).work = s.work ∧
    IoStep s.io (releaseSecond p s).io := by unfold releaseSecond; split <;> simp

/-! ### The reads, the delays and the memory write leave the pins -/

@[simp] theorem dataRead_frame :
    (dataRead s).fixed = s.fixed ∧ (dataRead s).pins = s.pins ∧ (dataRead s).res = s.res ∧
    (dataRead s).progress = s.progress ∧ IoStep s.io (dataRead s).io := ⟨rfl, rfl, rfl, rfl, .read _⟩
@[simp] theorem addrRead_frame :
    (addrRead s).fixed = s.fixed ∧ (addrRead s).pins = s.pins ∧ (addrRead s).res = s.res ∧
    (addrRead s).progress = s.progress ∧ IoStep s.io (addrRead s).io := ⟨rfl, rfl, rfl, rfl, .read _⟩
@[simp] theorem ctlRead_frame (g : Sig) :
    (ctlRead g s).fixed = s.fixed ∧ (ctlRead g s).pins = s.pins ∧ (ctlRead g s).res = s.res ∧
    (ctlRead g s).progress = s.progress ∧ IoStep s.io (ctlRead g s).io := ⟨rfl, rfl, rfl, rfl, .read _⟩
@[simp] theorem busRead_frame (b : Bus) :
    (busRead b s).fixed = s.fixed ∧ (busRead b s).pins = s.pins ∧ (busRead b s).res = s.res ∧
    (busRead b s).progress = s.progress ∧ IoStep s.io (busRead b s).io := by cases b <;> simp [busRead]
@[simp] theorem snapRead_frame (k : Nat) :
    (snapRead k s).fixed = s.fixed ∧ (snapRead k s).pins = s.pins ∧ (snapRead k s).res = s.res ∧
    (snapRead k s).progress = s.progress ∧ IoStep s.io (snapRead k s).io := by
  unfold snapRead; split <;> simp
@[simp] theorem settle_frame :
    (settle s).fixed = s.fixed ∧ (settle s).pins = s.pins ∧ (settle s).res = s.res ∧
    (settle s).progress = s.progress ∧ (settle s).work = s.work ∧ IoStep s.io (settle s).io :=
  ⟨rfl, rfl, rfl, rfl, rfl, .operation _⟩
@[simp] theorem confirmWait_frame :
    (confirmWait s).fixed = s.fixed ∧ (confirmWait s).pins = s.pins ∧ (confirmWait s).res = s.res ∧
    (confirmWait s).progress = s.progress ∧ (confirmWait s).work = s.work ∧
    IoStep s.io (confirmWait s).io := ⟨rfl, rfl, rfl, rfl, rfl, .operation _⟩

/-! ### The memory operations -/

@[simp] theorem cellWrite_frame (v : CellVal) :
    (cellWrite v s).fixed = s.fixed ∧ (cellWrite v s).pins = s.pins ∧ (cellWrite v s).res = s.res ∧
    (cellWrite v s).progress = s.progress ∧ IoStep s.io (cellWrite v s).io := by
  rw [cellWrite_eq]; exact ⟨rfl, rfl, rfl, rfl, .operation _⟩
@[simp] theorem cellReadDiscard_frame :
    (cellReadDiscard s).fixed = s.fixed ∧ (cellReadDiscard s).pins = s.pins ∧
    (cellReadDiscard s).res = s.res ∧ (cellReadDiscard s).progress = s.progress ∧
    IoStep s.io (cellReadDiscard s).io := by
  rw [cellReadDiscard_eq]; exact ⟨rfl, rfl, rfl, rfl, .read _⟩
@[simp] theorem cellFetch_frame (v : CellVal) :
    (cellFetch v s).fixed = s.fixed ∧ (cellFetch v s).pins = s.pins ∧ (cellFetch v s).res = s.res ∧
    (cellFetch v s).progress = s.progress ∧ IoStep s.io (cellFetch v s).io := by
  rw [cellFetch_eq]; exact ⟨rfl, rfl, rfl, rfl, .read _⟩
@[simp] theorem rstopBegin_frame :
    (rstopBegin s).fixed = s.fixed ∧ (rstopBegin s).pins = s.pins ∧ (rstopBegin s).res = s.res ∧
    (rstopBegin s).progress = s.progress ∧ (rstopBegin s).io = s.io := by
  rw [rstopBegin_eq]; exact ⟨rfl, rfl, rfl, rfl, rfl⟩
@[simp] theorem countRead_frame :
    (countRead s).fixed = s.fixed ∧ (countRead s).pins = s.pins ∧ (countRead s).res = s.res ∧
    (countRead s).progress = s.progress ∧ (countRead s).io = s.io := ⟨rfl, rfl, rfl, rfl, rfl⟩
@[simp] theorem waitStep_frame (ms : Nat) :
    (waitStep ms s).fixed = s.fixed ∧ (waitStep ms s).pins = s.pins ∧ (waitStep ms s).res = s.res ∧
    (waitStep ms s).progress = s.progress ∧ (waitStep ms s).seq = s.seq ∧ IoStep s.io (waitStep ms s).io :=
  ⟨rfl, rfl, rfl, rfl, rfl, .operation _⟩
@[simp] theorem readAgain_frame :
    (readAgain s).fixed = s.fixed ∧ (readAgain s).pins = s.pins ∧ (readAgain s).res = s.res ∧
    (readAgain s).progress = s.progress ∧ (readAgain s).work = s.work ∧ (readAgain s).io = s.io :=
  ⟨rfl, rfl, rfl, rfl, rfl, rfl⟩
@[simp] theorem nextOp_frame (d : PassDir) (ops : List CellOp) :
    (nextOp d ops s).fixed = s.fixed ∧ (nextOp d ops s).pins = s.pins ∧ (nextOp d ops s).res = s.res ∧
    (nextOp d ops s).progress = s.progress ∧ (nextOp d ops s).work = s.work ∧
    (nextOp d ops s).seq.stage = s.seq.stage ∧ (nextOp d ops s).seq.call = s.seq.call ∧
    (nextOp d ops s).seq.phase = s.seq.phase ∧ (nextOp d ops s).io = s.io := by
  unfold nextOp; split <;> exact ⟨rfl, rfl, rfl, rfl, rfl, rfl, rfl, rfl, rfl⟩
@[simp] theorem nextCell_frame (d : PassDir) :
    (nextCell d s).fixed = s.fixed ∧ (nextCell d s).pins = s.pins ∧ (nextCell d s).res = s.res ∧
    (nextCell d s).progress = s.progress ∧ (nextCell d s).work = s.work ∧
    (nextCell d s).seq.stage = s.seq.stage ∧ (nextCell d s).seq.call = s.seq.call ∧
    (nextCell d s).seq.phase = s.seq.phase ∧ (nextCell d s).io = s.io :=
  ⟨rfl, rfl, rfl, rfl, rfl, rfl, rfl, rfl, rfl⟩
@[simp] theorem enterPhase_frame (phases : List MemPhase) (j : Nat) :
    (enterPhase phases j s).fixed = s.fixed ∧ (enterPhase phases j s).pins = s.pins ∧
    (enterPhase phases j s).res = s.res ∧ (enterPhase phases j s).progress = s.progress ∧
    (enterPhase phases j s).seq.stage = s.seq.stage ∧ (enterPhase phases j s).seq.call = s.seq.call ∧
    (enterPhase phases j s).seq.phase = j + 1 ∧ (enterPhase phases j s).io = s.io := by
  rw [enterPhase_eq]; exact ⟨rfl, rfl, rfl, rfl, rfl, rfl, rfl, rfl⟩
@[simp] theorem loadPattern_frame (pat : Option Byte) :
    (loadPattern pat s).fixed = s.fixed ∧ (loadPattern pat s).pins = s.pins ∧
    (loadPattern pat s).res = s.res ∧ (loadPattern pat s).progress = s.progress ∧
    (loadPattern pat s).seq = s.seq ∧ (loadPattern pat s).io = s.io := ⟨rfl, rfl, rfl, rfl, rfl, rfl⟩
@[simp] theorem accumulate_frame :
    (accumulate s).fixed = s.fixed ∧ (accumulate s).pins = s.pins ∧
    (accumulate s).progress = s.progress ∧ (accumulate s).work = s.work ∧ (accumulate s).io = s.io :=
  ⟨rfl, rfl, rfl, rfl, rfl⟩
@[simp] theorem cellRead_frame (v : CellVal) :
    (cellRead v s).fixed = s.fixed ∧ (cellRead v s).pins = s.pins ∧
    (cellRead v s).progress = s.progress ∧ IoStep s.io (cellRead v s).io := by simp [cellRead]
@[simp] theorem clearTr_frame :
    (clearTr s).fixed = s.fixed ∧ (clearTr s).pins = s.pins ∧ (clearTr s).progress = s.progress ∧
    (clearTr s).seq = s.seq ∧ (clearTr s).work = s.work ∧ (clearTr s).io = s.io :=
  ⟨rfl, rfl, rfl, rfl, rfl, rfl⟩

/-! ### Bookkeeping: no operation, the pins and the results stay -/

@[simp] theorem startConfirm_frame :
    (startConfirm s).fixed = s.fixed ∧ (startConfirm s).pins = s.pins ∧ (startConfirm s).res = s.res ∧
    (startConfirm s).progress = s.progress ∧ (startConfirm s).io = s.io := ⟨rfl, rfl, rfl, rfl, rfl⟩
@[simp] theorem countSample_frame (hit : Bool) :
    (countSample hit s).fixed = s.fixed ∧ (countSample hit s).pins = s.pins ∧
    (countSample hit s).res = s.res ∧ (countSample hit s).progress = s.progress ∧
    (countSample hit s).io = s.io := ⟨rfl, rfl, rfl, rfl, rfl⟩
@[simp] theorem phaseEnd_frame (top : Bool) (j n : Nat) :
    (phaseEnd top j n s).fixed = s.fixed ∧ (phaseEnd top j n s).pins = s.pins ∧
    (phaseEnd top j n s).res = s.res ∧ (phaseEnd top j n s).work = s.work ∧
    (phaseEnd top j n s).io = s.io := by cases top <;> exact ⟨rfl, rfl, rfl, rfl, rfl⟩
@[simp] theorem enterLine_frame (line width pos : Nat) :
    (enterLine line width pos s).fixed = s.fixed ∧ (enterLine line width pos s).pins = s.pins ∧
    (enterLine line width pos s).res = s.res ∧ (enterLine line width pos s).progress = s.progress ∧
    (enterLine line width pos s).io = s.io := by
  rw [enterLine_eq]; exact ⟨rfl, rfl, rfl, rfl, rfl⟩
@[simp] theorem nextG_frame (o : Nat) :
    (nextG o s).fixed = s.fixed ∧ (nextG o s).pins = s.pins ∧ (nextG o s).res = s.res ∧
    (nextG o s).progress = s.progress ∧ (nextG o s).work = s.work ∧ (nextG o s).io = s.io := by
  unfold nextG; split <;> exact ⟨rfl, rfl, rfl, rfl, rfl, rfl⟩
@[simp] theorem markCand_frame (g : Sig) :
    (markCand g s).fixed = s.fixed ∧ (markCand g s).pins = s.pins ∧ (markCand g s).res = s.res ∧
    (markCand g s).progress = s.progress ∧ (markCand g s).io = s.io := ⟨rfl, rfl, rfl, rfl, rfl⟩
@[simp] theorem markLow_frame (g : Sig) :
    (markLow g s).fixed = s.fixed ∧ (markLow g s).pins = s.pins ∧ (markLow g s).res = s.res ∧
    (markLow g s).progress = s.progress ∧ (markLow g s).io = s.io := ⟨rfl, rfl, rfl, rfl, rfl⟩
@[simp] theorem enterStage_frame (st : Nat) :
    (enterStage st s).fixed = s.fixed ∧ (enterStage st s).pins = s.pins ∧ (enterStage st s).res = s.res ∧
    (enterStage st s).progress = s.progress ∧ (enterStage st s).work = s.work ∧
    (enterStage st s).seq = { Seq.start with stage := st } ∧ (enterStage st s).io = s.io :=
  ⟨rfl, rfl, rfl, rfl, rfl, rfl, rfl⟩
@[simp] theorem abandonPass_frame :
    (abandonPass s).fixed = s.fixed ∧ (abandonPass s).pins = s.pins ∧ (abandonPass s).res = s.res ∧
    (abandonPass s).progress = s.progress ∧ (abandonPass s).seq = { Seq.start with stage := 7 } ∧
    (abandonPass s).io = s.io := ⟨rfl, rfl, rfl, rfl, rfl, rfl⟩

/-! ### The result registers -/

@[simp] theorem writeBusRecord_frame (b : Bus) (high low : BitVec 16) :
    (writeBusRecord b high low s).fixed = s.fixed ∧ (writeBusRecord b high low s).pins = s.pins ∧
    (writeBusRecord b high low s).progress = s.progress ∧ (writeBusRecord b high low s).work = s.work ∧
    (writeBusRecord b high low s).io = s.io := by cases b <;> exact ⟨rfl, rfl, rfl, rfl, rfl⟩
@[simp] theorem writeCtrlRecord_frame (high low : BitVec 12) :
    (writeCtrlRecord high low s).fixed = s.fixed ∧ (writeCtrlRecord high low s).pins = s.pins ∧
    (writeCtrlRecord high low s).progress = s.progress ∧ (writeCtrlRecord high low s).work = s.work ∧
    (writeCtrlRecord high low s).io = s.io := ⟨rfl, rfl, rfl, rfl, rfl⟩
@[simp] theorem writeXt_frame (src dst : Word64) :
    (writeXt src dst s).fixed = s.fixed ∧ (writeXt src dst s).pins = s.pins ∧
    (writeXt src dst s).progress = s.progress ∧ (writeXt src dst s).work = s.work ∧
    (writeXt src dst s).io = s.io := ⟨rfl, rfl, rfl, rfl, rfl⟩
@[simp] theorem aggFold_frame :
    (aggFold s).fixed = s.fixed ∧ (aggFold s).pins = s.pins ∧ (aggFold s).progress = s.progress ∧
    (aggFold s).seq = s.seq ∧ (aggFold s).work = s.work ∧ (aggFold s).io = s.io :=
  ⟨rfl, rfl, rfl, rfl, rfl, rfl⟩
@[simp] theorem recordCall_frame (c : Nat) (w : Word64) :
    (recordCall c w s).fixed = s.fixed ∧ (recordCall c w s).pins = s.pins ∧
    (recordCall c w s).progress = s.progress ∧ (recordCall c w s).seq = s.seq ∧
    (recordCall c w s).work = s.work ∧ (recordCall c w s).io = s.io := ⟨rfl, rfl, rfl, rfl, rfl, rfl⟩
@[simp] theorem writeFaultyMask_frame :
    (writeFaultyMask s).fixed = s.fixed ∧ (writeFaultyMask s).pins = s.pins ∧
    (writeFaultyMask s).progress = s.progress ∧ (writeFaultyMask s).seq = s.seq ∧
    (writeFaultyMask s).work = s.work ∧ (writeFaultyMask s).io = s.io := ⟨rfl, rfl, rfl, rfl, rfl, rfl⟩
@[simp] theorem suitePrologue_frame :
    (suitePrologue s).fixed = s.fixed ∧ (suitePrologue s).pins = s.pins ∧
    (suitePrologue s).progress = s.progress ∧ (suitePrologue s).work = s.work ∧
    (suitePrologue s).seq = { s.seq with call := 0, phase := 0, op := 1 } ∧ (suitePrologue s).io = s.io :=
  ⟨rfl, rfl, rfl, rfl, rfl, rfl⟩
@[simp] theorem clearResults_frame :
    (clearResults s).fixed = s.fixed ∧ (clearResults s).pins = s.pins ∧ (clearResults s).res = .zero ∧
    (clearResults s).progress = s.progress ∧ (clearResults s).seq = s.seq ∧
    (clearResults s).work = s.work ∧ (clearResults s).io = s.io := ⟨rfl, rfl, rfl, rfl, rfl, rfl, rfl⟩

end

end Sys2Proof.Machine
end

section
/-! SUPPORT. The frame of every body: what one step of it leaves, and the stages of `FULLPASS` once. -/

namespace Sys2Proof.Machine
open Sys2Proof

/-- The state a step of a body comes to, however it ends. -/
def BodyStep.state : BodyStep → State
  | .more t | .ended t | .cancelled t | .fatal t => t

@[simp] theorem more_state (t : State) : (BodyStep.more t).state = t := rfl
@[simp] theorem ended_state (t : State) : (BodyStep.ended t).state = t := rfl
@[simp] theorem cancelled_state (t : State) : (BodyStep.cancelled t).state = t := rfl
@[simp] theorem fatal_state (t : State) : (BodyStep.fatal t).state = t := rfl

/-- What one engine step leaves: mode and status, the host's side, the stage; and what it does to the environment. -/
def Framed (s t : State) : Prop := t.fixed = s.fixed ∧ t.seq.stage = s.seq.stage ∧ IoStep s.io t.io

variable (s : State) (top : Bool)

/-! ### The stuck-at tester -/

theorem verifyDriveLow_framed (b : Bus) : Framed s (verifyDriveLow b top s) := by
  unfold verifyDriveLow
  split <;> simp [Framed]

theorem verifyConfirm_framed (b : Bus) : Framed s (verifyConfirm b top s) := by
  unfold verifyConfirm verifyDecide verifyNextLine
  split
  · split_ifs <;> simp [Framed]
  · simp [Framed]

theorem verifyDriveHigh_framed (b : Bus) : Framed s (verifyDriveHigh b top s) := by
  unfold verifyDriveHigh
  split <;> simp [Framed]

theorem verifyCleanup_framed (b : Bus) : Framed s (verifyCleanup b s).state := by
  unfold verifyCleanup
  split <;> simp [Framed]

theorem verifyBusBody_framed (b : Bus) : Framed s (verifyBusBody b top s).state := by
  unfold verifyBusBody
  split
  · simp [Framed]
  · exact verifyDriveLow_framed ..
  · exact verifyConfirm_framed ..
  · exact verifyDriveHigh_framed ..
  · exact verifyCleanup_framed ..

theorem ctrlDriveLow_framed : Framed s (ctrlDriveLow top s) := by
  unfold ctrlDriveLow
  split
  case h_4 => dsimp only; split <;> simp [Framed]
  all_goals simp [Framed]

theorem ctrlConfirm_framed : Framed s (ctrlConfirm top s) := by
  unfold ctrlConfirm ctrlDecide ctrlNextLine
  split
  · split_ifs <;> simp [Framed]
  · simp [Framed]

theorem ctrlDriveHigh_framed : Framed s (ctrlDriveHigh top s) := by
  unfold ctrlDriveHigh
  split
  case h_3 | h_7 | h_8 => dsimp only; split <;> simp [Framed]
  all_goals simp [Framed]

theorem ctrlCleanup_framed : Framed s (ctrlCleanup s).state := by
  unfold ctrlCleanup
  split <;> simp [Framed]

theorem verifyCtrlBody_framed : Framed s (verifyCtrlBody top s).state := by
  unfold verifyCtrlBody
  split
  · simp [Framed, ctrlPrologue]
  · exact ctrlDriveLow_framed ..
  · exact ctrlConfirm_framed ..
  · exact ctrlDriveHigh_framed ..
  · exact ctrlCleanup_framed ..

/-! ### SAMPLE and CROSSTALK -/

theorem sampleBody_framed : Framed s (sampleBody s).state := by
  unfold sampleBody
  split <;> simp [Framed]

theorem xtPrologue_framed : Framed s (xtPrologue s) := by
  unfold xtPrologue enterPosition
  split_ifs <;> simp [Framed]

theorem xtTrigger_framed : Framed s (xtTrigger s) := by
  unfold xtTrigger
  dsimp only
  split <;> simp [Framed]

theorem xtDecide_framed : Framed s (xtDecide s) := by
  unfold xtDecide
  split <;> simp [Framed]

theorem xtSample_framed : Framed s (xtSample s) := by simp [xtSample, Framed]

theorem xtNext_framed : Framed s (xtNext top s).state := by
  unfold xtNext enterPosition
  split <;> simp [Framed]

/-- R186: what a step of one position can be, by the step `OP` of it. -/
inductive XtStep : BodyStep → Prop
  | cancel (hop : s.seq.op = 0) : XtStep (.cancelled (writeXt s.work.src s.work.dst s))
  | driveFirst (hop : s.seq.op = 0) :
      XtStep (.more ((driveFirst s.seq.posk s).gotoOp (if twoStep s.seq.posk then 1 else 2)))
  | driveSecond (hop : s.seq.op = 1) : XtStep (.more ((driveSecond s.seq.posk s).gotoOp 2))
  | settle (hop : s.seq.op = 2) : XtStep (.more ((settle s).gotoOp 3))
  | read (hop : 3 ≤ s.seq.op ∧ s.seq.op ≤ 16) :
      XtStep (.more ((snapRead (s.seq.op - 3) s).gotoOp (s.seq.op + 1)))
  | trigger (hop : s.seq.op = 17) : XtStep (.more (xtTrigger s))
  | wait (hop : s.seq.op = 18) : XtStep (.more ((confirmWait s).gotoOp 19))
  | decide (hop : s.seq.op = 18) : XtStep (.more (xtDecide s))
  | sampleRead (hop : 19 ≤ s.seq.op ∧ s.seq.op ≤ 31) :
      XtStep (.more ((snapRead (s.seq.op - 19) s).gotoOp (s.seq.op + 1)))
  | sample (hop : s.seq.op = 32) : XtStep (.more (xtSample s))
  | releaseFirst (hop : s.seq.op = 33) :
      XtStep (.more ((releaseFirst s.seq.posk s).gotoOp (if twoStep s.seq.posk then 34 else 35)))
  | releaseSecond (hop : s.seq.op = 34) : XtStep (.more ((releaseSecond s.seq.posk s).gotoOp 35))
  | next (hop : 35 ≤ s.seq.op) : XtStep (xtNext top s)

theorem xtPosition_step : XtStep s top (xtPosition top s) := by
  unfold xtPosition
  by_cases h0 : s.seq.op = 0
  · rw [if_pos h0]
    split
    · exact .cancel h0
    · exact .driveFirst h0
  rw [if_neg h0]
  by_cases h1 : s.seq.op = 1
  · rw [if_pos h1]; exact .driveSecond h1
  rw [if_neg h1]
  by_cases h2 : s.seq.op = 2
  · rw [if_pos h2]; exact .settle h2
  rw [if_neg h2]
  by_cases h16 : s.seq.op ≤ 16
  · rw [if_pos h16]; exact .read (by omega)
  rw [if_neg h16]
  by_cases h17 : s.seq.op = 17
  · rw [if_pos h17]; exact .trigger h17
  rw [if_neg h17]
  by_cases h18 : s.seq.op = 18
  · rw [if_pos h18]
    split
    · exact .wait h18
    · exact .decide h18
  rw [if_neg h18]
  by_cases h31 : s.seq.op ≤ 31
  · rw [if_pos h31]; exact .sampleRead (by omega)
  rw [if_neg h31]
  by_cases h32 : s.seq.op = 32
  · rw [if_pos h32]; exact .sample h32
  rw [if_neg h32]
  by_cases h33 : s.seq.op = 33
  · rw [if_pos h33]; exact .releaseFirst h33
  rw [if_neg h33]
  by_cases h34 : s.seq.op = 34
  · rw [if_pos h34]; exact .releaseSecond h34
  rw [if_neg h34]; exact .next (by omega)

theorem xtPosition_framed : Framed s (xtPosition top s).state := by
  generalize hr : xtPosition top s = r
  have hstep : XtStep s top r := hr ▸ xtPosition_step s top
  cases hstep with
  | trigger => exact xtTrigger_framed s
  | decide => exact xtDecide_framed s
  | sample => exact xtSample_framed s
  | next => exact xtNext_framed s top
  | _ => simp [Framed]

theorem crosstalkBody_framed : Framed s (crosstalkBody top s).state := by
  unfold crosstalkBody
  split
  · exact xtPrologue_framed s
  · exact xtPosition_framed s top

/-! ### The memory algorithms and SUITE -/

theorem rstopTurn_framed (d : PassDir) (ops : List CellOp) (v : CellVal) (n : Nat) :
    Framed s (rstopTurn d ops v n s) := by
  have hread : IoStep s.io (cellFetch v (rstopBegin s)).io := by
    simpa only [rstopBegin_frame] using (cellFetch_frame (rstopBegin s) v).2.2.2.2
  obtain ⟨-, h⟩ | ⟨-, -, h⟩ | ⟨-, -, h⟩ := rstopTurn_cases d ops v n s <;> rw [h] <;>
    simp [Framed, hread]

theorem passStep_framed (d : PassDir) (ops : List CellOp) : Framed s (passStep d ops s) := by
  unfold passStep cellOp
  split
  · split
    case h_4 => exact rstopTurn_framed ..
    all_goals simp [Framed]
  · simp [Framed]

theorem endPhase_framed (phases : List MemPhase) (j : Nat) : Framed s (endPhase top phases j s).state := by
  unfold endPhase
  split <;> simp [Framed]

theorem memBody_framed (pat : Option Byte) (phases : List MemPhase) :
    Framed s (memBody top pat phases s).state := by
  obtain ⟨-, h⟩ | ⟨j, -, -, h⟩ | ⟨j, d, ops, -, -, -, h⟩ | ⟨j, ms, n, -, -, -, h⟩ | ⟨j, p, -, -, h⟩ :=
    memBody_cases top pat phases s <;> rw [h]
  · simp [Framed]
  · simp [Framed]
  · exact passStep_framed ..
  · simp [Framed]
  · exact endPhase_framed ..

end Sys2Proof.Machine
end

section
/-! SUPPORT. The bodies by command, stand-alone or inside a composite, and the steps of the two composites. -/

namespace Sys2Proof.Machine
open Sys2Proof

/-- The body of a command; `top` when the command is the outermost, which alone writes `PROGRESS` (R336). -/
def bodyIn (top : Bool) : Instr → State → BodyStep
  | .nop => nopBody
  | .activate => activateBody
  | .deactivate => deactivateBody
  | .clear => clearBody
  | .verifyData => verifyBusBody .data top
  | .verifyAddr => verifyBusBody .address top
  | .verifyCtrl => verifyCtrlBody top
  | .sample => sampleBody
  | .crosstalk => crosstalkBody top
  | .repwrite p t => repwriteBody top p t
  | .repread p => repreadBody top p
  | .checker t => checkerBody top t
  | .walk1 => walk1Body top
  | .walk0 => walk0Body top
  | .marchc => marchcBody top
  | .marchss => marchssBody top
  | .marchla => marchlaBody top
  | .movinv p => movinvBody top p
  | .retention p d n => retentionBody top p d n
  | .readdestr p n => readdestrBody top p n
  | .addruniq p => addruniqBody top p
  | .suite => suiteBody top
  | .fullpass => fullpassBody

theorem bodyOf_eq_bodyIn (i : Instr) : bodyOf i = bodyIn true i := by cases i <;> rfl

theorem stageBody_eq_bodyIn {st : Nat} (h : st ≠ 0) : stageBody st = bodyIn false (stageCommand st) := by
  match st, h with
  | 1, _ | 2, _ | 3, _ | 4, _ | 5, _ | 6, _ | _ + 7, _ => rfl

theorem bodyIn_of_memTable {i : Instr} {pat : Option Byte} {phases : List MemPhase}
    (h : memTable i = some (pat, phases)) (top : Bool) : bodyIn top i = memBody top pat phases := by
  cases i <;> cases h <;> rfl

theorem stageCommand_ne_fullpass (st : Nat) : stageCommand st ≠ .fullpass := by
  unfold stageCommand
  split <;> simp

/-! ### How a step of a body ends -/

/-- What a step of a body comes to: it goes on, it is over (cancelled or not), or it halts. -/
def BodyStep.Comes (go out halt : State → Prop) : BodyStep → Prop
  | .more t => go t
  | .ended t | .cancelled t => out t
  | .fatal t => halt t

section
variable {go out halt : State → Prop}

@[simp] theorem comes_more (t : State) : (BodyStep.more t).Comes go out halt ↔ go t := .rfl
@[simp] theorem comes_ended (t : State) : (BodyStep.ended t).Comes go out halt ↔ out t := .rfl
@[simp] theorem comes_cancelled (t : State) : (BodyStep.cancelled t).Comes go out halt ↔ out t := .rfl
@[simp] theorem comes_fatal (t : State) : (BodyStep.fatal t).Comes go out halt ↔ halt t := .rfl

theorem BodyStep.Comes.mono {go' out' halt' : State → Prop} {r : BodyStep} (h : r.Comes go out halt)
    (hgo : ∀ t, go t → go' t) (hout : ∀ t, out t → out' t) (hhalt : ∀ t, halt t → halt' t) :
    r.Comes go' out' halt' := by
  cases r with
  | more t => exact hgo t h
  | ended t | cancelled t => exact hout t h
  | fatal t => exact hhalt t h

theorem BodyStep.Comes.and {go' out' halt' : State → Prop} {r : BodyStep} (h : r.Comes go out halt)
    (h' : r.Comes go' out' halt') :
    r.Comes (fun t => go t ∧ go' t) (fun t => out t ∧ out' t) (fun t => halt t ∧ halt' t) := by
  cases r <;> exact ⟨h, h'⟩

theorem BodyStep.Comes.state {P : State → Prop} {r : BodyStep} (h : r.Comes go out halt) (hgo : ∀ t, go t → P t)
    (hout : ∀ t, out t → P t) (hhalt : ∀ t, halt t → P t) : P r.state := by
  cases r with
  | more t => exact hgo t h
  | ended t | cancelled t => exact hout t h
  | fatal t => exact hhalt t h

theorem comes_self {P : State → Prop} {r : BodyStep} (h : P r.state) : r.Comes P P P := by
  cases r <;> exact h

/-- A body that never halts comes to its state. -/
theorem comes_of_state {r : BodyStep} (hr : ∀ t, r ≠ .fatal t) (hgo : go r.state) (hout : out r.state) :
    r.Comes go out halt := by
  cases r with
  | more t => exact hgo
  | ended t | cancelled t => exact hout
  | fatal t => exact absurd rfl (hr t)

end

/-! ### SUITE -/

theorem memBody_goes_or_ends (top : Bool) (pat : Option Byte) (phases : List MemPhase) (s : State) :
    ∃ t, memBody top pat phases s = .more t ∨ memBody top pat phases s = .ended t := by
  obtain ⟨-, h⟩ | ⟨j, -, -, h⟩ | ⟨j, d, ops, -, -, -, h⟩ | ⟨j, ms, n, -, -, -, h⟩ | ⟨j, p, -, -, h⟩ :=
    memBody_cases top pat phases s <;> rw [h]
  · exact ⟨_, .inl rfl⟩
  · exact ⟨_, .inr rfl⟩
  · exact ⟨_, .inl rfl⟩
  · exact ⟨_, .inl rfl⟩
  · unfold endPhase
    split
    · exact ⟨_, .inl rfl⟩
    · exact ⟨_, .inr rfl⟩

/-- A step of a call of the suite is one of a memory algorithm, or nothing. -/
theorem memAlgorithmBody_eq (i : Instr) (s : State) :
    memAlgorithmBody i s = .ended s ∨
    ∃ pat phases, memAlgorithmBody i s = memBody false pat phases s := by
  cases h : memTable i with
  | none => exact .inl (memAlgorithmBody_of_none h s)
  | some row => exact .inr ⟨row.1, row.2, memAlgorithmBody_of_memTable h s⟩

theorem memAlgorithmBody_framed (i : Instr) (s : State) : Framed s (memAlgorithmBody i s).state := by
  obtain h | ⟨pat, phases, h⟩ := memAlgorithmBody_eq i s <;> rw [h]
  · simp [Framed]
  · exact memBody_framed ..

/-- R325, R327: the state in which the end of a call leaves the results. -/
def callRecorded (s : State) : State := aggFold (recordCall s.seq.call (encode (suiteCall s.cfg s.seq.call)) s)

@[simp] theorem callRecorded_frame (s : State) :
    (callRecorded s).fixed = s.fixed ∧ (callRecorded s).pins = s.pins ∧
    (callRecorded s).progress = s.progress ∧ (callRecorded s).seq = s.seq ∧
    (callRecorded s).work = s.work ∧ (callRecorded s).io = s.io := ⟨rfl, rfl, rfl, rfl, rfl, rfl⟩

/-- R327: what a step of `SUITE` can be. -/
inductive SuiteStep (top : Bool) (s : State) : BodyStep → Prop
  | prologue (hstart : s.seq.phase = 0 ∧ s.seq.op = 0) : SuiteStep top s (.more (suitePrologue s))
  | cancel (hphase : s.seq.phase = 0) (hop : s.seq.op ≠ 0) : SuiteStep top s (.cancelled (writeFaultyMask s))
  | call (hstart : ¬ (s.seq.phase = 0 ∧ s.seq.op = 0)) (t : State)
      (h : memAlgorithmBody (suiteCall s.cfg s.seq.call) s = .more t) : SuiteStep top s (.more t)
  | nextCall (t : State) (h : memAlgorithmBody (suiteCall s.cfg s.seq.call) s = .ended t)
      (hlast : t.seq.call + 1 < 19) :
      SuiteStep top s (.more ((phaseEnd top (t.seq.call + 1) 19 (callRecorded t)).setSeq
        { t.seq with call := t.seq.call + 1, phase := 0, op := 1 }))
  | last (t : State) (h : memAlgorithmBody (suiteCall s.cfg s.seq.call) s = .ended t) :
      SuiteStep top s (.ended (writeFaultyMask (phaseEnd top 1 1 (callRecorded t))))

theorem suiteBody_step (top : Bool) (s : State) : SuiteStep top s (suiteBody top s) := by
  unfold suiteBody
  split
  case isTrue h => exact .prologue h
  case isFalse hstart =>
    split
    case isTrue h => exact .cancel h.1 fun hop => hstart ⟨h.1, hop⟩
    case isFalse =>
      obtain ⟨t, ht⟩ : ∃ t, memAlgorithmBody (suiteCall s.cfg s.seq.call) s = .more t ∨
          memAlgorithmBody (suiteCall s.cfg s.seq.call) s = .ended t := by
        obtain h | ⟨pat, phases, h⟩ := memAlgorithmBody_eq (suiteCall s.cfg s.seq.call) s <;> rw [h]
        · exact ⟨s, .inr rfl⟩
        · exact memBody_goes_or_ends ..
      unfold callStep
      obtain h | h := ht <;> rw [h]
      · exact .call hstart t h
      · change SuiteStep top s (endCall top t)
        unfold endCall
        dsimp only
        split
        case isTrue hlast => exact .nextCall t h hlast
        case isFalse => exact .last t h

theorem suiteBody_framed (top : Bool) (s : State) : Framed s (suiteBody top s).state := by
  have hcall := memAlgorithmBody_framed (suiteCall s.cfg s.seq.call) s
  generalize hr : suiteBody top s = r
  have hstep : SuiteStep top s r := hr ▸ suiteBody_step top s
  cases hstep with
  | prologue | cancel => simp [Framed]
  | call _ t h => simpa [h] using hcall
  | nextCall t h | last t h => simpa [Framed, h] using hcall

/-! ### FULLPASS -/

/-- R330: what a step of `FULLPASS` can be. -/
inductive FullpassStep (s : State) : BodyStep → Prop
  | prologue (hst : s.seq.stage = 0) :
      FullpassStep s (.more (enterStage 1 ((clearResults s).setWork { s.work with cancelling := false })))
  | cancelStart (hst : 2 ≤ s.seq.stage ∧ s.seq.stage ≤ 6)
      (hq : s.seq.phase = 0 ∧ s.seq.op = 0 ∧ s.seq.call = 0) : FullpassStep s (.more (abandonPass s))
  | within (hst : s.seq.stage ≠ 0) (t : State) (h : bodyIn false (stageCommand s.seq.stage) s = .more t) :
      FullpassStep s (.more t)
  | nextStage (hst : s.seq.stage ≠ 0) (hlast : s.seq.stage < 7) (t : State)
      (h : bodyIn false (stageCommand s.seq.stage) s = .ended t) :
      FullpassStep s (.more (enterStage (s.seq.stage + 1) (phaseEnd true s.seq.stage 7 t)))
  | cancelIn (hst : s.seq.stage ≠ 0) (hlast : s.seq.stage < 7) (t : State)
      (h : bodyIn false (stageCommand s.seq.stage) s = .cancelled t) : FullpassStep s (.more (abandonPass t))
  | ended (hst : 7 ≤ s.seq.stage) (t : State) (h : bodyIn false (stageCommand s.seq.stage) s = .ended t) :
      FullpassStep s (.ended t)
  | cancelled (hst : 7 ≤ s.seq.stage) (t : State) (h : bodyIn false (stageCommand s.seq.stage) s = .ended t) :
      FullpassStep s (.cancelled t)
  | fatal (hst : s.seq.stage ≠ 0) (t : State) (h : bodyIn false (stageCommand s.seq.stage) s = .fatal t) :
      FullpassStep s (.fatal t)

theorem fullpassBody_step (s : State) : FullpassStep s (fullpassBody s) := by
  unfold fullpassBody
  split
  case isTrue h => exact .prologue h
  case isFalse hst =>
    split
    case isTrue h =>
      simp only [cancelStage, Seq.atStageStart, Bool.and_eq_true, decide_eq_true_eq] at h
      exact .cancelStart (by omega) (by omega)
    case isFalse =>
      have hbody := congrFun (stageBody_eq_bodyIn hst) s
      unfold stageStep
      cases hr : stageBody s.seq.stage s with
      | more t => exact .within hst t (hbody ▸ hr)
      | ended t =>
        dsimp only
        split
        · exact .nextStage hst ‹_› t (hbody ▸ hr)
        · split
          · exact .cancelled (by omega) t (hbody ▸ hr)
          · exact .ended (by omega) t (hbody ▸ hr)
      | cancelled t => exact .cancelIn hst (stageBody_cancelled hr) t (hbody ▸ hr)
      | fatal t => exact .fatal hst t (hbody ▸ hr)

/-! ### Every body -/

/-- The commands that change the mode (R210). -/
def changesMode : Instr → Bool
  | .activate | .deactivate | .fullpass => true
  | _ => false

theorem bodyIn_framed {i : Instr} (h : changesMode i = false) (top : Bool) (s : State) :
    Framed s (bodyIn top i s).state := by
  cases hrow : memTable i with
  | some row => rw [bodyIn_of_memTable hrow]; exact memBody_framed ..
  | none =>
    cases i with
    | nop => exact ⟨rfl, rfl, .silent⟩
    | clear => simp [bodyIn, clearBody, Framed]
    | verifyData | verifyAddr => exact verifyBusBody_framed ..
    | verifyCtrl => exact verifyCtrlBody_framed ..
    | sample => exact sampleBody_framed ..
    | crosstalk => exact crosstalkBody_framed ..
    | suite => exact suiteBody_framed ..
    | activate | deactivate | fullpass => cases h
    | _ => cases hrow

/-- What a step of `ACTIVATE` leaves; it ends in `OWNED` or in the fatal halt (R212). -/
theorem activateBody_comes (s : State) : (activateBody s).Comes (Framed s)
    (fun t => t.fixed = s.fixed.setMode .owned ∧ t.seq.stage = s.seq.stage ∧ IoStep s.io t.io)
    (fun t => ∃ c, c ≠ .none ∧ t.fixed = raiseFatal c s.fixed ∧ t.seq.stage = s.seq.stage ∧ IoStep s.io t.io) := by
  unfold activateBody
  split
  case h_3 =>
    split
    · exact ⟨.alreadyActive, by decide, rfl, rfl, .silent⟩
    · simp [Framed]
  case h_5 =>
    split_ifs
    · simp [Framed]
    · exact ⟨rfl, rfl, .silent⟩
    · exact ⟨.activateFailed, by decide, rfl, rfl, .silent⟩
  all_goals simp [Framed]

/-- What a step of `DEACTIVATE` leaves; it ends in `RELEASED` or in the fatal halt (R215). -/
theorem deactivateBody_comes (s : State) : (deactivateBody s).Comes (Framed s)
    (fun t => t.fixed = s.fixed.setMode .released ∧ t.seq.stage = s.seq.stage ∧ IoStep s.io t.io)
    (fun t => ∃ c, c ≠ .none ∧ t.fixed = raiseFatal c s.fixed ∧ t.seq.stage = s.seq.stage ∧ IoStep s.io t.io) := by
  unfold deactivateBody
  split
  case h_2 =>
    split_ifs
    · simp [Framed]
    · simp [Framed]
    · exact ⟨.deactivateFailed, by decide, rfl, rfl, .silent⟩
  all_goals simp [Framed]

/-- What no step of any body writes: status, the command and the host's side. -/
def EnvFramed (s t : State) : Prop := (∃ m c, t.fixed = { s.fixed with mode := m, fatal := c }) ∧ IoStep s.io t.io

theorem Framed.envFramed {s t : State} (h : Framed s t) : EnvFramed s t := ⟨⟨s.mode, s.fatal, h.1⟩, h.2.2⟩

/-- A step of a body other than `FULLPASS`'s leaves the status, the command, the stage and the host's side. -/
theorem primitive_envFramed {i : Instr} (hi : i ≠ .fullpass) (top : Bool) (s : State) :
    EnvFramed s (bodyIn top i s).state := by
  by_cases h : changesMode i = false
  · exact (bodyIn_framed h top s).envFramed
  · cases i with
    | fullpass => exact absurd rfl hi
    | activate =>
      refine (activateBody_comes s).state (fun t h => h.envFramed) ?_ ?_
      · rintro t ⟨h, -, hio⟩; exact ⟨⟨.owned, s.fatal, h⟩, hio⟩
      · rintro t ⟨c, -, h, -, hio⟩; exact ⟨⟨.halted, c, h⟩, hio⟩
    | deactivate =>
      refine (deactivateBody_comes s).state (fun t h => h.envFramed) ?_ ?_
      · rintro t ⟨h, -, hio⟩; exact ⟨⟨.released, s.fatal, h⟩, hio⟩
      · rintro t ⟨c, -, h, -, hio⟩; exact ⟨⟨.halted, c, h⟩, hio⟩
    | _ => exact absurd rfl h

theorem bodyIn_envFramed (top : Bool) (i : Instr) (s : State) : EnvFramed s (bodyIn top i s).state := by
  by_cases hi : i = .fullpass
  case neg => exact primitive_envFramed hi top s
  case pos =>
    subst hi
    have hbody := primitive_envFramed (stageCommand_ne_fullpass s.seq.stage) false s
    change EnvFramed s (fullpassBody s).state
    generalize hr : fullpassBody s = r
    have hstep : FullpassStep s r := hr ▸ fullpassBody_step s
    cases hstep with
    | prologue | cancelStart => exact ⟨⟨s.mode, s.fatal, rfl⟩, .silent⟩
    | within _ t h | ended _ t h | cancelled _ t h | fatal _ t h => simpa [h] using hbody
    | nextStage _ _ t h | cancelIn _ _ t h => simpa [EnvFramed, h] using hbody

end Sys2Proof.Machine
end

section
/-! Ownership is kept (O48), and the frame of every step (O40). -/

namespace Sys2Proof.Machine
open Sys2Proof

/-! ### Acceptance and completion -/

@[simp] theorem finish_frame (r : BodyStep) :
    (finish r).mode = r.state.mode ∧ (finish r).fatal = r.state.fatal ∧ (finish r).pins = r.state.pins ∧
    (finish r).res = r.state.res ∧ (finish r).seq = r.state.seq ∧ (finish r).work = r.state.work ∧
    (finish r).io = r.state.io := by
  cases r <;> exact ⟨rfl, rfl, rfl, rfl, rfl, rfl, rfl⟩

@[simp] theorem present_frame (i : Instr) (s : State) :
    (present i s).mode = s.mode ∧ (present i s).pins = s.pins ∧ (present i s).res = s.res ∧
    (present i s).io = s.io := by
  obtain ⟨-, -, -, h⟩ | ⟨c, -, h⟩ := present_cases i s <;> rw [h] <;> exact ⟨rfl, rfl, rfl, rfl⟩

/-! ### O40 -/

/-- The state without what a command writes, or its acceptance and completion: the configuration, the region, the
chip labels and the host's side. -/
def State.surroundings (s : State) : State :=
  { s.fixed with
    mode := .released, fatal := .none, busy := false, done := false, err := .none, cancelReq := false
    cancelled := false, lastcmd := 0#64 }

theorem exec_surroundings {i : Instr} {s t : State} (h : exec i s = .next t) :
    t.surroundings = s.surroundings ∧ IoStep s.io t.io := by
  obtain ⟨-, ⟨-, rfl⟩ | ⟨-, rfl⟩⟩ := exec_next h
  · obtain ⟨-, -, -, h⟩ | ⟨c, -, h⟩ := present_cases i s <;> rw [h] <;> exact ⟨rfl, .silent⟩
  · obtain ⟨⟨m, c, hfix⟩, hio⟩ := bodyIn_envFramed true i s
    rw [← bodyOf_eq_bodyIn] at hfix hio
    have hfinish : (finish (bodyOf i s)).surroundings = (bodyOf i s).state.surroundings := by
      cases bodyOf i s <;> rfl
    refine ⟨?_, by rwa [(finish_frame _).2.2.2.2.2.2]⟩
    rw [hfinish, State.surroundings, hfix]
    rfl

/-- Settles O40: every body is framed by what its operations write, and issues at most one of them. -/
theorem execFrame : Obligations.ExecFrame := by
  unfold Obligations.ExecFrame
  intro i s t h
  obtain ⟨hsame, hio⟩ := exec_surroundings h
  have same {α : Type} (f : State → α) (hf : ∀ u : State, f u.surroundings = f u) : f t = f s := by
    rw [← hf, hsame, hf]
  exact ⟨same _ fun _ => rfl, same _ fun _ => rfl, same _ fun _ => rfl, same _ fun _ => rfl, same _ fun _ => rfl,
    same _ fun _ => rfl, hio.parts⟩

end Sys2Proof.Machine
end

section
/-! Ownership is kept (O48): which body ends in which mode (R128, R210). -/

namespace Sys2Proof.Machine
open Sys2Proof

/-! ### The mode at the end of a body -/

/-- R212, R215: the mode in which a command that ran in mode `m` ends. -/
def modeAfter (i : Instr) (m : Mode) : Mode :=
  match i with
  | .activate => .owned
  | .deactivate => .released
  | _ => m

theorem memBody_not_fatal (top : Bool) (pat : Option Byte) (phases : List MemPhase) (s t : State) :
    memBody top pat phases s ≠ .fatal t := by
  obtain ⟨u, h | h⟩ := memBody_goes_or_ends top pat phases s <;> simp [h]

theorem verifyBusBody_not_fatal (b : Bus) (top : Bool) (s t : State) : verifyBusBody b top s ≠ .fatal t := by
  unfold verifyBusBody verifyCleanup
  split
  case h_5 => split <;> simp
  all_goals simp

theorem verifyCtrlBody_not_fatal (top : Bool) (s t : State) : verifyCtrlBody top s ≠ .fatal t := by
  unfold verifyCtrlBody ctrlCleanup
  split
  case h_5 => split <;> simp
  all_goals simp

theorem xtNext_not_fatal (top : Bool) (s t : State) : xtNext top s ≠ .fatal t := by
  unfold xtNext
  split <;> simp

theorem crosstalkBody_not_fatal (top : Bool) (s t : State) : crosstalkBody top s ≠ .fatal t := by
  unfold crosstalkBody
  split
  · simp
  · generalize hr : xtPosition top s = r
    have hstep : XtStep s top r := hr ▸ xtPosition_step s top
    cases hstep with
    | next => exact xtNext_not_fatal top s t
    | _ => simp

theorem sampleBody_not_fatal (s t : State) : sampleBody s ≠ .fatal t := by
  unfold sampleBody
  split <;> simp

theorem suiteBody_not_fatal (top : Bool) (s t : State) : suiteBody top s ≠ .fatal t := by
  generalize hr : suiteBody top s = r
  have hstep : SuiteStep top s r := hr ▸ suiteBody_step top s
  cases hstep <;> simp

/-- R216: the activation and the deactivation alone can halt. -/
theorem bodyIn_not_fatal {i : Instr} (h : changesMode i = false) (top : Bool) (s t : State) :
    bodyIn top i s ≠ .fatal t := by
  cases hrow : memTable i with
  | some row => rw [bodyIn_of_memTable hrow]; exact memBody_not_fatal _ _ _ s t
  | none =>
    cases i with
    | nop | clear => simp [bodyIn, nopBody, clearBody]
    | verifyData | verifyAddr => exact verifyBusBody_not_fatal _ top s t
    | verifyCtrl => exact verifyCtrlBody_not_fatal top s t
    | sample => exact sampleBody_not_fatal s t
    | crosstalk => exact crosstalkBody_not_fatal top s t
    | suite => exact suiteBody_not_fatal top s t
    | activate | deactivate | fullpass => cases h
    | _ => cases hrow

/-- What a step of a body other than `FULLPASS`'s leaves of the mode. -/
theorem primitive_comes {i : Instr} (hi : i ≠ .fullpass) (top : Bool) (s : State) :
    (bodyIn top i s).Comes (Framed s) (fun t => t.fixed = s.fixed.setMode (modeAfter i s.mode))
      (fun t => ∃ c, c ≠ .none ∧ t.fixed = raiseFatal c s.fixed) := by
  by_cases h : changesMode i = false
  · have hframed := bodyIn_framed h top s
    have hmode : modeAfter i s.mode = s.mode := by cases i <;> first | rfl | cases h
    exact comes_of_state (bodyIn_not_fatal h top s) hframed (by rw [hmode]; exact hframed.1)
  · cases i with
    | fullpass => exact absurd rfl hi
    | activate => exact (activateBody_comes s).mono (fun _ h => h) (fun _ h => h.1) fun _ ⟨c, hc, h, _⟩ => ⟨c, hc, h⟩
    | deactivate =>
      exact (deactivateBody_comes s).mono (fun _ h => h) (fun _ h => h.1) fun _ ⟨c, hc, h, _⟩ => ⟨c, hc, h⟩
    | _ => exact absurd rfl h

theorem modeAfter_ne_halted (i : Instr) {m : Mode} (h : m ≠ .halted) : modeAfter i m ≠ .halted := by
  unfold modeAfter
  split <;> simp [h]

/-- R330: the stages 1 to 6 of `FULLPASS` end in `OWNED`. -/
theorem modeAfter_stage {st : Nat} {m : Mode} (h : runMode .fullpass st m) (hst : st ≠ 0) (hlast : st < 7) :
    modeAfter (stageCommand st) m = .owned := by
  match st, hst, hlast with
  | 1, _, _ => rfl
  | 2, _, _ | 3, _, _ | 4, _, _ | 5, _, _ | 6, _, _ => exact h.2.2 (by decide)

/-- R128: an accepted command runs in a mode it allows. -/
theorem runMode_of_modeAllows {i : Instr} {m : Mode} (h : modeAllows i m = true) : runMode i 0 m := by
  cases i <;> simp_all [modeAllows, runMode]

/-! ### The invariant -/

theorem ownershipInv_of_core {s t : State} (h : t.core = s.core) (hs : OwnershipInv s) : OwnershipInv t :=
  (eq_of_core h OwnershipInv).mpr hs

theorem OwnershipInv.fatal_none {s : State} (h : OwnershipInv s) (hm : s.mode ≠ .halted) : s.fatal = .none := by
  by_contra hf
  exact hm (h.1.mp hf)

theorem ownershipInv_idle {t : State} (hb : t.busy = false) (hm : t.mode ≠ .halted) (hf : t.fatal = .none) :
    OwnershipInv t := by
  simp [OwnershipInv, hb, hm, hf]

theorem ownershipInv_running {t : State} (hb : t.busy = true → t.done = false ∧ t.cancelled = false)
    (hm : t.mode ≠ .halted) (hf : t.fatal = .none) {i : Instr} (hi : decode t.lastcmd = .ok i)
    (hmode : runMode i t.seq.stage t.mode) : OwnershipInv t :=
  ⟨by simp [hm, hf], fun h => absurd h hm, hb, fun _ _ => ⟨i, hi, hmode⟩⟩

theorem runMode_ne_halted {i : Instr} {st : Nat} {m : Mode} (h : runMode i st m) : m ≠ .halted := by
  rintro rfl
  cases i <;> simp [runMode] at h
  omega

/-- Ownership over one engine step of the running command, from what its body comes to. -/
theorem OwnershipInv.finish {s : State} (hs : OwnershipInv s) {i : Instr} (hruns : s.Runs i) {r : BodyStep}
    (hr : r.Comes (fun t => ∃ m, t.fixed = s.fixed.setMode m ∧ runMode i t.seq.stage m)
      (fun t => ∃ m, m ≠ .halted ∧ t.fixed = s.fixed.setMode m)
      (fun t => ∃ c, c ≠ .none ∧ t.fixed = raiseFatal c s.fixed)) : OwnershipInv (finish r) := by
  have hfatal : s.fatal = .none := hs.fatal_none hruns.1.2
  cases r with
  | more t =>
    obtain ⟨m, h, hmode⟩ := hr
    have same {α : Type} (f : State → α) (hf : ∀ u : State, f u.fixed = f u) : f t = f (s.setMode m) :=
      eq_of_fixed (s := s.setMode m) h f hf
    have hm : t.mode = m := same State.mode fun _ => rfl
    refine ownershipInv_running (i := i) ?_ (hm ▸ runMode_ne_halted hmode) ?_ ?_ (hm ▸ hmode)
    · rw [Machine.finish, same State.busy fun _ => rfl, same State.done fun _ => rfl,
        same State.cancelled fun _ => rfl]
      exact hs.2.2.1
    · exact (same State.fatal fun _ => rfl).trans hfatal
    · exact (congrArg decode (same State.lastcmd fun _ => rfl)).trans hruns.2
  | ended t | cancelled t =>
    obtain ⟨m, hm, h⟩ := hr
    have hmode : t.mode = m := eq_of_fixed (s := s.setMode m) h State.mode
    have hf : t.fatal = s.fatal := eq_of_fixed (s := s.setMode m) h State.fatal
    exact ownershipInv_idle rfl (hmode ▸ hm) (hf.trans hfatal)
  | fatal t =>
    obtain ⟨c, hc, h⟩ := hr
    have same {α : Type} (f : State → α) (hf : ∀ u : State, f u.fixed = f u) : f t = f (raiseFatal c s) :=
      eq_of_fixed (s := raiseFatal c s) h f hf
    have hmode : t.mode = .halted := same State.mode fun _ => rfl
    have hf : t.fatal = c := same State.fatal fun _ => rfl
    have hb : t.busy = true := (same State.busy fun _ => rfl).trans hruns.1.1
    have hd : t.done = false ∧ t.cancelled = false := by
      rw [same State.done fun _ => rfl, same State.cancelled fun _ => rfl]
      exact hs.2.2.1 hruns.1.1
    exact ⟨by simp [Machine.finish, hmode, hf, hc], fun _ => hb, fun _ => hd, fun _ h => absurd hmode h⟩

theorem OwnershipInv.runMode {s : State} (hs : OwnershipInv s) {i : Instr} (hruns : s.Runs i) :
    runMode i s.seq.stage s.mode := by
  obtain ⟨j, hj, hmode⟩ := hs.2.2.2 hruns.1.1 hruns.1.2
  rw [hruns.2] at hj
  cases hj
  exact hmode

/-- What a step of `FULLPASS` comes to, its stage's mode known (R330). -/
theorem fullpassBody_comes {s : State} (hmode : runMode .fullpass s.seq.stage s.mode) (hm : s.mode ≠ .halted) :
    (fullpassBody s).Comes (fun t => (∃ m, t.fixed = s.fixed.setMode m ∧ runMode .fullpass t.seq.stage m))
      (fun t => ∃ m, m ≠ .halted ∧ t.fixed = s.fixed.setMode m)
      (fun t => ∃ c, c ≠ .none ∧ t.fixed = raiseFatal c s.fixed) := by
  have hbody := primitive_comes (stageCommand_ne_fullpass s.seq.stage) false s
  generalize hr : fullpassBody s = r
  have hstep : FullpassStep s r := hr ▸ fullpassBody_step s
  cases hstep with
  | prologue hst => exact ⟨s.mode, rfl, by simp, fun _ => hmode.2.1 (by omega), by simp⟩
  | cancelStart hst => exact ⟨s.mode, rfl, le_rfl, by simp, fun _ => hmode.2.2 hst.1⟩
  | within _ t h =>
    rw [h] at hbody
    exact ⟨s.mode, hbody.1, by rwa [hbody.2.1]⟩
  | nextStage hst hlast t h =>
    rw [h, comes_ended, modeAfter_stage hmode hst hlast] at hbody
    exact ⟨.owned, by simpa using hbody, by simp; omega, by simp; omega, by simp⟩
  | cancelIn hst hlast t h =>
    rw [h, comes_cancelled, modeAfter_stage hmode hst hlast] at hbody
    exact ⟨.owned, by simpa using hbody, by simp, by simp, by simp⟩
  | ended _ t h | cancelled _ t h =>
    rw [h] at hbody
    exact ⟨_, modeAfter_ne_halted _ hm, hbody⟩
  | fatal _ t h => rwa [h] at hbody

/-- Every step of a running command keeps ownership. -/
theorem ownershipInv_ran {s : State} {i : Instr} (hs : OwnershipInv s) (hruns : s.Runs i) :
    OwnershipInv (finish (bodyOf i s)) := by
  have hm := hruns.1.2
  have hmode := hs.runMode hruns
  refine hs.finish hruns ?_
  by_cases hi : i = .fullpass
  · subst hi
    exact fullpassBody_comes hmode hm
  · rw [bodyOf_eq_bodyIn]
    refine (primitive_comes hi true s).mono (fun t h => ⟨s.mode, h.1, ?_⟩)
      (fun t h => ⟨_, modeAfter_ne_halted i hm, h⟩) fun t h => h
    rwa [h.2.1]

theorem ownershipInv_accepted {s : State} {i : Instr} (hs : OwnershipInv s) (hidle : s.Idle)
    (hmode : modeAllows i s.mode = true) (hword : decode (encode i) = .ok i) :
    OwnershipInv (accept (encode i) s) :=
  ownershipInv_running (fun _ => ⟨rfl, rfl⟩) hidle.2 (hs.fatal_none hidle.2) hword (runMode_of_modeAllows hmode)

theorem ownershipInv_reset (s : State) : OwnershipInv (resetEngine s) :=
  ownershipInv_idle rfl (by simp [resetEngine, State.reset]) rfl

/-- Settles O48. -/
theorem ownershipKept : Obligations.OwnershipKept := by
  unfold Obligations.OwnershipKept
  intro s t hs h
  exact kept_by_step ownershipInv_of_core (fun s _ => ownershipInv_reset s)
    (fun _ _ => ownershipInv_accepted) (fun _ _ => ownershipInv_ran) hs h

end Sys2Proof.Machine
end

section
/-! `PROGRESS` (O55): what a step of each body does to it, and the bound its position gives (R27, R336). -/

namespace Sys2Proof.Machine
open Sys2Proof

variable {s t : State} {top : Bool}

theorem phaseEnd_progress (s : State) (top : Bool) (j n : Nat) :
    (phaseEnd top j n s).progress = if top then BitVec.ofNat 7 (100 * j / n) else s.progress := by
  cases top <;> rfl

/-- The share `j` of `n` is a percentage, and fits the register. -/
theorem percent_toNat {j n : Nat} (h : j ≤ n) :
    (BitVec.ofNat 7 (100 * j / n)).toNat = 100 * j / n ∧ 100 * j / n ≤ 100 := by
  have hle : 100 * j / n ≤ 100 := Nat.div_le_of_le_mul (by nlinarith)
  exact ⟨by rw [BitVec.toNat_ofNat]; exact Nat.mod_eq_of_lt (by omega), hle⟩

/-- A step does not lower `PROGRESS` and keeps it a percentage; inside a composite it leaves it (R336). -/
def Advances (top : Bool) (s t : State) : Prop :=
  s.progress.toNat ≤ t.progress.toNat ∧ t.progress.toNat ≤ 100 ∧ (top = false → t.progress = s.progress)

theorem advances_of_eq (hs : s.progress.toNat ≤ 100) (h : t.progress = s.progress) : Advances top s t :=
  ⟨by rw [h], by rwa [h], fun _ => h⟩

theorem advances_of_percent {j n : Nat} (hj : j ≤ n) (hs : s.progress.toNat ≤ 100)
    (hb : top = true → s.progress.toNat ≤ 100 * j / n) (h : t.progress = (phaseEnd top j n s).progress) :
    Advances top s t := by
  rw [phaseEnd_progress] at h
  cases top with
  | false => exact advances_of_eq hs h
  | true =>
    obtain ⟨hval, hle⟩ := percent_toNat hj
    have ht : t.progress.toNat = 100 * j / n := by rw [h]; exact hval
    exact ⟨ht ▸ hb rfl, ht ▸ hle, fun h => by cases h⟩

/-! ### Bodies in phases -/

/-- A step of a body of `n` phases: within the phase, or at its end (R27). -/
def InPhases (top : Bool) (n : Nat) (s t : State) : Prop :=
  (t.progress = s.progress ∧ s.seq.phase ≤ t.seq.phase) ∨
  (s.seq.phase ≤ n ∧ t.progress = (phaseEnd top s.seq.phase n s).progress ∧ t.seq.phase = s.seq.phase + 1)

theorem InPhases.advances {n : Nat} (h : InPhases top n s t) (hs : s.progress.toNat ≤ 100)
    (hb : top = true → s.progress.toNat ≤ 100 * (s.seq.phase - 1) / n) :
    Advances top s t ∧ (top = true → t.progress.toNat ≤ 100 * (t.seq.phase - 1) / n) := by
  have hmono {j k : Nat} (hjk : j ≤ k) : 100 * j / n ≤ 100 * k / n := by gcongr
  obtain ⟨hprogress, hphase⟩ | ⟨hj, hprogress, hphase⟩ := h
  · refine ⟨advances_of_eq hs hprogress, fun ht => ?_⟩
    rw [hprogress]
    exact (hb ht).trans (hmono (by omega))
  · refine ⟨advances_of_percent hj hs (fun ht => (hb ht).trans (hmono (by omega))) hprogress, fun ht => ?_⟩
    subst ht
    rw [hprogress, phaseEnd_progress, if_pos rfl, (percent_toNat hj).1, hphase]
    exact hmono (by omega)

theorem verifyBusBody_inPhases (b : Bus) (top : Bool) (s : State) :
    (verifyBusBody b top s).Comes (InPhases top 4 s)
      (fun t => t.progress = s.progress ∨ t.progress = (phaseEnd top 1 1 s).progress) (fun _ => False) := by
  unfold verifyBusBody
  split
  case h_1 hp => simp [InPhases, hp]
  case h_2 hp =>
    unfold verifyDriveLow
    split <;> simp [InPhases, phaseEnd_progress, hp]
  case h_3 hp =>
    unfold verifyConfirm verifyDecide verifyNextLine
    split
    · split_ifs <;> simp [InPhases, phaseEnd_progress, hp]
    · simp [InPhases, hp]
  case h_4 hp =>
    unfold verifyDriveHigh
    split <;> simp [InPhases, phaseEnd_progress, hp]
  case h_5 hp =>
    unfold verifyCleanup
    split <;> simp [InPhases]

theorem ctrlDriveLow_inPhases (hp : s.seq.phase = 1) : InPhases top 4 s (ctrlDriveLow top s) := by
  unfold ctrlDriveLow
  split
  case h_4 => dsimp only; split <;> simp [InPhases, phaseEnd_progress, hp]
  all_goals simp [InPhases, hp]

theorem ctrlConfirm_inPhases (hp : s.seq.phase = 2) : InPhases top 4 s (ctrlConfirm top s) := by
  unfold ctrlConfirm ctrlDecide ctrlNextLine
  split
  · split_ifs <;> simp [InPhases, phaseEnd_progress, hp]
  · simp [InPhases, hp]

theorem ctrlDriveHigh_inPhases (hp : s.seq.phase = 3) : InPhases top 4 s (ctrlDriveHigh top s) := by
  unfold ctrlDriveHigh
  split
  case h_3 | h_7 | h_8 => dsimp only; split <;> simp [InPhases, phaseEnd_progress, hp]
  all_goals simp [InPhases, hp]

theorem verifyCtrlBody_inPhases (top : Bool) (s : State) :
    (verifyCtrlBody top s).Comes (InPhases top 4 s)
      (fun t => t.progress = s.progress ∨ t.progress = (phaseEnd top 1 1 s).progress) (fun _ => False) := by
  unfold verifyCtrlBody
  split
  case h_1 hp => simp [InPhases, ctrlPrologue, hp]
  case h_2 hp => exact ctrlDriveLow_inPhases hp
  case h_3 hp => exact ctrlConfirm_inPhases hp
  case h_4 hp => exact ctrlDriveHigh_inPhases hp
  case h_5 hp =>
    unfold ctrlCleanup
    split <;> simp [InPhases]

theorem crosstalkBody_inPhases (top : Bool) (s : State) :
    (crosstalkBody top s).Comes (InPhases top 33 s)
      (fun t => t.progress = s.progress ∨ t.progress = (phaseEnd top 1 1 s).progress) (fun _ => False) := by
  unfold crosstalkBody
  split
  case h_1 hp =>
    unfold xtPrologue enterPosition
    split_ifs <;> simp [InPhases, hp]
  case h_2 hp =>
    generalize hr : xtPosition top s = r
    have hstep : XtStep s top r := hr ▸ xtPosition_step s top
    cases hstep with
    | trigger =>
      unfold xtTrigger
      dsimp only
      split <;> simp [InPhases]
    | decide =>
      unfold xtDecide
      split <;> simp [InPhases]
    | next =>
      unfold xtNext enterPosition Config.drivableCount
      split
      · simp [InPhases, phaseEnd_progress]; omega
      · simp [phaseEnd_progress]
    | sample => simp [InPhases, xtSample]
    | _ => simp [InPhases]

theorem rstopTurn_progress (d : PassDir) (ops : List CellOp) (v : CellVal) (n : Nat) (s : State) :
    (rstopTurn d ops v n s).progress = s.progress ∧ (rstopTurn d ops v n s).seq.phase = s.seq.phase := by
  obtain ⟨-, h⟩ | ⟨-, -, h⟩ | ⟨-, -, h⟩ := rstopTurn_cases d ops v n s <;> rw [h] <;> simp

theorem passStep_progress (d : PassDir) (ops : List CellOp) (s : State) :
    (passStep d ops s).progress = s.progress ∧ (passStep d ops s).seq.phase = s.seq.phase := by
  unfold passStep cellOp
  split
  · split
    case h_4 => exact rstopTurn_progress ..
    all_goals simp
  · simp

theorem memBody_inPhases (top : Bool) (pat : Option Byte) (phases : List MemPhase) (s : State) :
    (memBody top pat phases s).Comes (InPhases top phases.length s)
      (fun t => t.progress = s.progress ∨ t.progress = (phaseEnd top 1 1 s).progress)
      (fun _ => False) := by
  obtain ⟨hp, h⟩ | ⟨j, -, -, h⟩ | ⟨j, d, ops, -, -, -, h⟩ | ⟨j, ms, n, -, -, -, h⟩ | ⟨j, p, hp, hj, h⟩ :=
    memBody_cases top pat phases s <;> rw [h]
  · simp [InPhases, hp]
  · simp
  · simp [InPhases, passStep_progress]
  · simp [InPhases]
  · have hlen : j < phases.length := (List.getElem?_eq_some_iff.mp hj).1
    unfold endPhase
    split
    · simp [InPhases, phaseEnd_progress, hp]; omega
    · have hlast : phases.length = j + 1 := by omega
      simp [phaseEnd_progress, hlast]

/-! ### SUITE -/

theorem memAlgorithmBody_progress (i : Instr) (s : State) : (memAlgorithmBody i s).state.progress = s.progress := by
  obtain h | ⟨pat, phases, h⟩ := memAlgorithmBody_eq i s <;> rw [h]
  · rfl
  · refine (memBody_inPhases false pat phases s).state (P := fun t => t.progress = s.progress) ?_ ?_ fun _ h => h.elim
    · rintro t (h | h); exacts [h.1, h.2.1]
    · rintro t (h | h); exacts [h, h]

theorem suiteBody_progress (hs : s.progress.toNat ≤ 100)
    (hb : top = true → s.progress.toNat ≤ progressBound .suite s.seq) :
    (suiteBody top s).Comes
      (fun t => Advances top s t ∧ (top = true → t.progress.toNat ≤ progressBound .suite t.seq))
      (Advances top s) (fun t => t.progress = s.progress ∧ t.seq = s.seq) := by
  have hcall := memAlgorithmBody_progress (suiteCall s.cfg s.seq.call) s
  have hgoes := memAlgorithmBody_goesOn (suiteCall_wellFormed s.cfg s.seq.call) s
  have hb' : top = true → s.progress.toNat ≤ 100 * s.seq.call / 19 := by
    intro ht
    refine (hb ht).trans ?_
    simp only [progressBound]
    split <;> simp
  generalize hr : suiteBody top s = r
  have hstep : SuiteStep top s r := hr ▸ suiteBody_step top s
  cases hstep with
  | prologue hstart =>
    refine ⟨advances_of_eq hs rfl, fun ht => (hb ht).trans ?_⟩
    simp [progressBound, hstart]
  | cancel => exact advances_of_eq hs rfl
  | call hstart t h =>
    rw [h] at hcall hgoes
    obtain ⟨⟨-, -, hsame⟩, hphase, -⟩ := hgoes
    refine ⟨advances_of_eq hs hcall, fun ht => ?_⟩
    rw [more_state] at hcall
    simpa [progressBound, hphase, hcall, hsame] using hb' ht
  | nextCall t h hlast =>
    rw [h] at hcall
    rw [ended_state] at hcall
    have hseq := memAlgorithmBody_ended h
    have hle : t.seq.call + 1 ≤ 19 := by omega
    refine ⟨advances_of_percent hle hs (fun ht => (hb' ht).trans ?_) ?_, fun ht => ?_⟩
    · rw [hseq]; gcongr; omega
    · simp [phaseEnd_progress, hcall]
    · subst ht
      simp [phaseEnd_progress, progressBound, (percent_toNat hle).1]
  | last t h =>
    rw [h] at hcall
    rw [ended_state] at hcall
    exact advances_of_percent (j := 1) (n := 1) le_rfl hs (fun _ => by simpa using hs) (by simp [phaseEnd_progress, hcall])

/-! ### Every command -/

/-- R237: the phases of a memory algorithm, counted. -/
theorem memPhaseCount_eq {i : Instr} {pat : Option Byte} {phases : List MemPhase}
    (h : memTable i = some (pat, phases)) : memPhaseCount i = phases.length := by
  cases i <;> cases h <;> rfl

theorem progressBound_eq_of_memTable {i : Instr} {pat : Option Byte} {phases : List MemPhase}
    (h : memTable i = some (pat, phases)) (q : Seq) :
    progressBound i q = 100 * (q.phase - 1) / phases.length := by
  rw [← memPhaseCount_eq h]
  cases i <;> first | rfl | cases h

/-- A body in phases advances within the bound its phase gives. -/
theorem BodyStep.Comes.advances {n : Nat} {i : Instr} {r : BodyStep}
    (hbound : ∀ q, progressBound i q = 100 * (q.phase - 1) / n) (hs : s.progress.toNat ≤ 100)
    (hb : top = true → s.progress.toNat ≤ progressBound i s.seq)
    (hr : r.Comes (InPhases top n s)
      (fun t => t.progress = s.progress ∨ t.progress = (phaseEnd top 1 1 s).progress) (fun _ => False)) :
    r.Comes (fun t => Advances top s t ∧ (top = true → t.progress.toNat ≤ progressBound i t.seq))
      (Advances top s) (fun t => t.progress = s.progress ∧ t.seq = s.seq) := by
  refine hr.mono (fun t h => ?_) (fun t h => ?_) fun _ h => h.elim
  · rw [hbound]
    exact h.advances hs (by rwa [← hbound])
  · obtain h | h := h
    · exact advances_of_eq hs h
    · exact advances_of_percent (j := 1) (n := 1) le_rfl hs (fun _ => by simpa using hs) h

/-- The commands without phases leave `PROGRESS` at 0 until they complete. -/
theorem activateBody_progress (s : State) : (activateBody s).Comes (fun t => t.progress = s.progress)
    (fun t => t.progress = s.progress) (fun t => t.progress = s.progress ∧ t.seq = s.seq) := by
  unfold activateBody
  split
  case h_3 => split <;> simp
  case h_5 => split_ifs <;> simp
  all_goals simp

theorem deactivateBody_progress (s : State) : (deactivateBody s).Comes (fun t => t.progress = s.progress)
    (fun t => t.progress = s.progress) (fun t => t.progress = s.progress ∧ t.seq = s.seq) := by
  unfold deactivateBody
  split
  case h_2 => split_ifs <;> simp
  all_goals simp

theorem sampleBody_progress (s : State) : (sampleBody s).Comes (fun t => t.progress = s.progress)
    (fun t => t.progress = s.progress) (fun t => t.progress = s.progress ∧ t.seq = s.seq) := by
  unfold sampleBody
  split <;> simp

/-- What a step of a body other than `FULLPASS`'s does to `PROGRESS`. -/
theorem primitive_progress {i : Instr} (hi : i ≠ .fullpass) (hs : s.progress.toNat ≤ 100)
    (hb : top = true → s.progress.toNat ≤ progressBound i s.seq) :
    (bodyIn top i s).Comes
      (fun t => Advances top s t ∧ (top = true → t.progress.toNat ≤ progressBound i t.seq))
      (Advances top s) (fun t => t.progress = s.progress ∧ t.seq = s.seq) := by
  have hstill {r : BodyStep} (hzero : ∀ q q', progressBound i q = progressBound i q')
      (hr : r.Comes (fun t => t.progress = s.progress) (fun t => t.progress = s.progress)
        (fun t => t.progress = s.progress ∧ t.seq = s.seq)) :
      r.Comes (fun t => Advances top s t ∧ (top = true → t.progress.toNat ≤ progressBound i t.seq))
        (Advances top s) (fun t => t.progress = s.progress ∧ t.seq = s.seq) :=
    hr.mono (fun t h => ⟨advances_of_eq hs h, fun ht => by rw [h, hzero t.seq s.seq]; exact hb ht⟩)
      (fun t h => advances_of_eq hs h) fun _ h => h
  cases hrow : memTable i with
  | some row =>
    rw [bodyIn_of_memTable hrow]
    exact (memBody_inPhases top row.1 row.2 s).advances (progressBound_eq_of_memTable hrow) hs hb
  | none =>
    cases i with
    | verifyData => exact (verifyBusBody_inPhases .data top s).advances (fun _ => rfl) hs hb
    | verifyAddr => exact (verifyBusBody_inPhases .address top s).advances (fun _ => rfl) hs hb
    | verifyCtrl => exact (verifyCtrlBody_inPhases top s).advances (fun _ => rfl) hs hb
    | crosstalk => exact (crosstalkBody_inPhases top s).advances (fun _ => rfl) hs hb
    | suite => exact suiteBody_progress hs hb
    | nop | clear => exact advances_of_eq hs rfl
    | activate => exact hstill (fun _ _ => rfl) (activateBody_progress s)
    | deactivate => exact hstill (fun _ _ => rfl) (deactivateBody_progress s)
    | sample => exact hstill (fun _ _ => rfl) (sampleBody_progress s)
    | fullpass => exact absurd rfl hi
    | _ => cases hrow

/-- A step of `FULLPASS` advances within the bound its stage gives. -/
theorem fullpassBody_progress (hs : s.progress.toNat ≤ 100)
    (hb : s.progress.toNat ≤ progressBound .fullpass s.seq) :
    (fullpassBody s).Comes (fun t => Advances true s t ∧ t.progress.toNat ≤ progressBound .fullpass t.seq)
      (Advances true s) (fun t => t.progress = s.progress ∧ t.seq = s.seq) := by
  have hbody := primitive_progress (top := false) (stageCommand_ne_fullpass s.seq.stage) hs (fun h => by cases h)
  have hframed := primitive_comes (stageCommand_ne_fullpass s.seq.stage) false s
  change s.progress.toNat ≤ 100 * (s.seq.stage - 1) / 7 at hb
  generalize hr : fullpassBody s = r
  have hstep : FullpassStep s r := hr ▸ fullpassBody_step s
  cases hstep with
  | prologue hst =>
    refine ⟨advances_of_eq hs rfl, hb.trans ?_⟩
    simp [hst]
  | cancelStart hst =>
    refine ⟨advances_of_eq hs rfl, hb.trans ?_⟩
    simp only [progressBound, abandonPass_frame]
    gcongr; omega
  | within _ t h =>
    rw [h] at hbody hframed
    refine ⟨advances_of_eq hs (hbody.1.2.2 rfl), ?_⟩
    simpa only [progressBound, hframed.2.1, hbody.1.2.2 rfl] using hb
  | nextStage hst hlast t h =>
    rw [h] at hbody
    refine ⟨advances_of_percent (j := s.seq.stage) (n := 7) hlast.le hs (fun _ => hb.trans ?_) ?_, ?_⟩
    · gcongr; omega
    · simp [phaseEnd_progress]
    · simp [phaseEnd_progress, progressBound, (percent_toNat hlast.le).1]
  | cancelIn hst hlast t h =>
    rw [h] at hbody
    have hsame := hbody.2.2 rfl
    refine ⟨advances_of_eq hs (by simpa using hsame), ?_⟩
    simp only [progressBound, abandonPass_frame, hsame]
    refine hb.trans ?_
    gcongr
  | ended _ t h | cancelled _ t h =>
    rw [h] at hbody
    exact advances_of_eq hs (hbody.2.2 rfl)
  | fatal _ t h => rwa [h] at hbody

/-! ### The invariant -/

/-- A running command's step advances `PROGRESS` to a value within its bound; completion makes it 100. -/
theorem progressInv_finish {i : Instr} (hb : s.busy = true) (hi : decode s.lastcmd = .ok i) {r : BodyStep}
    (hlast : decode r.state.lastcmd = .ok i) (hs : ProgressInv s)
    (hr : r.Comes (fun t => Advances true s t ∧ t.progress.toNat ≤ progressBound i t.seq) (Advances true s)
      (fun t => t.progress = s.progress ∧ t.seq = s.seq)) :
    ProgressInv (finish r) ∧ s.progress.toNat ≤ (finish r).progress.toNat := by
  cases r with
  | more t =>
    obtain ⟨⟨hle, h100, -⟩, hb⟩ := hr
    refine ⟨⟨h100, fun j _ hj => ?_⟩, hle⟩
    cases hj.symm.trans hlast
    exact hb
  | ended t => exact ⟨⟨le_rfl, fun j h => by cases h⟩, hs.1⟩
  | cancelled t => exact ⟨⟨hr.2.1, fun j h => by cases h⟩, hr.1⟩
  | fatal t =>
    obtain ⟨hprogress, hseq⟩ := hr
    refine ⟨⟨?_, fun j _ hj => ?_⟩, ?_⟩
    · rw [finish_fatal, hprogress]; exact hs.1
    · cases hj.symm.trans hlast
      rw [finish_fatal, hprogress, hseq]
      exact hs.2 i hb hi
    · rw [finish_fatal, hprogress]

theorem progressInv_ran {i : Instr} (hs : ProgressInv s) (hruns : s.Runs i) :
    ProgressInv (finish (bodyOf i s)) ∧ s.progress.toNat ≤ (finish (bodyOf i s)).progress.toNat := by
  have hbound := hs.2 i hruns.1.1 hruns.2
  have hlast : decode (bodyOf i s).state.lastcmd = .ok i := by
    obtain ⟨⟨m, c, hfix⟩, -⟩ := bodyIn_envFramed true i s
    rw [bodyOf_eq_bodyIn, eq_of_fixed (s := { s with mode := m, fatal := c }) hfix State.lastcmd]
    exact hruns.2
  refine progressInv_finish hruns.1.1 hruns.2 hlast hs ?_
  by_cases hi : i = .fullpass
  · subst hi
    exact fullpassBody_progress hs.1 hbound
  · rw [bodyOf_eq_bodyIn]
    exact (primitive_progress (top := true) hi hs.1 fun _ => hbound).mono
      (fun t h => ⟨h.1, h.2 rfl⟩) (fun _ h => h) fun _ h => h

theorem progressInv_of_core {s t : State} (h : t.core = s.core) (hs : ProgressInv s) : ProgressInv t :=
  (eq_of_core h ProgressInv).mpr hs

/-- Settles O55: each body advances `PROGRESS` within the bound of its position. -/
theorem progressKept : Obligations.ProgressKept := by
  unfold Obligations.ProgressKept
  intro s t hs h
  obtain ⟨u, hu, hturn⟩ := step_turn h
  have hInv : ProgressInv u := progressInv_of_core hu hs
  have hprogress : u.progress = s.progress := eq_of_core hu State.progress
  have hbusy : u.busy = s.busy := eq_of_core hu State.busy
  cases hturn with
  | host h =>
    have : t.progress = u.progress := eq_of_core h State.progress
    exact ⟨progressInv_of_core h hInv, fun _ _ => by rw [this, hprogress]⟩
  | reset rest hreset h =>
    subst h
    exact ⟨⟨Nat.zero_le _, fun i h => by cases h⟩, fun _ hno => absurd hreset (hno rest)⟩
  | accepted i hidle _ _ h =>
    subst h
    refine ⟨⟨Nat.zero_le _, fun _ _ _ => Nat.zero_le _⟩, fun hb _ => ?_⟩
    rw [← hbusy, hidle.1] at hb
    cases hb
  | ran i hruns h =>
    subst h
    obtain ⟨hkept, hle⟩ := progressInv_ran hInv hruns
    exact ⟨hkept, fun _ _ => hprogress ▸ hle⟩

end Sys2Proof.Machine
end

section
/-! The pins (O50): the rule of each pin operation on what the pins show, and the steps of every body by it. -/

namespace Sys2Proof.Machine
open Sys2Proof

/-! ### What the pins show -/

/-- The pins show these levels: the data bus, the address bus, every control signal. -/
def Shows (p : Pins) (data addr : Dir × BitVec 16) (line : Sig → LineState) : Prop :=
  busesAre p data addr ∧ ∀ g, lineIs p g (line g)

/-- R33: a bus in the quiescent state. -/
abbrev idleBus : Dir × BitVec 16 := (.input, 0#16)

/-- R33, R34: the lines when nothing is driven, with `TEST` as given. -/
def restLine (test : LineState) : Sig → LineState := Function.update quietLine .test test

theorem forall_line_iff {p : Pins} {line : Sig → LineState} {test : LineState} :
    (∀ g, lineIs p g (Function.update line .test test g)) ↔
      (∀ g, g ≠ .test → lineIs p g (line g)) ∧ lineIs p .test test := by
  constructor
  · intro h
    exact ⟨fun g hg => by simpa [hg] using h g, by simpa using h .test⟩
  · rintro ⟨h, htest⟩ g
    by_cases hg : g = .test
    · subst hg; simpa using htest
    · simpa [hg] using h g hg

theorem quiescent_iff {p : Pins} {test : LineState} :
    quiescent p ∧ lineIs p .test test ↔ Shows p idleBus idleBus (restLine test) := by
  rw [Shows, restLine, forall_line_iff, quiescent, and_assoc]

theorem runningPins_iff {i : Instr} {q : Seq} {m : Mode} {p : Pins} :
    runningPins i q m p ↔
      Shows p (runDataPins i q) (runAddrPins i q)
        (Function.update (runLine i q) .test (runningTestLine i q.op m)) ∧ (i = .verifyCtrl → ctrlPosk q) := by
  rw [Shows, forall_line_iff, runningPins]
  simp only [and_assoc]

section
variable {s : State} {data addr : Dir × BitVec 16} {line line' : Sig → LineState} {test : LineState}

theorem shows_dataDir (h : Shows s.pins data addr line) (d : Dir) :
    Shows (dataDir d s).pins (d, data.2) addr line :=
  ⟨⟨rfl, h.1.2.1, h.1.2.2⟩, h.2⟩

theorem shows_dataWrite (h : Shows s.pins data addr line) {v : Byte} {w : BitVec 16} (hv : v = w.setWidth 8) :
    Shows (dataWrite v s).pins (data.1, w) addr line :=
  ⟨⟨h.1.1, hv, h.1.2.2⟩, h.2⟩

theorem shows_addrDir (h : Shows s.pins data addr line) (d : Dir) :
    Shows (addrDir d s).pins data (d, addr.2) line :=
  ⟨⟨h.1.1, h.1.2.1, rfl, h.1.2.2.2⟩, h.2⟩

theorem shows_addrWrite (h : Shows s.pins data addr line) (v : Addr) :
    Shows (addrWrite v s).pins data (addr.1, v) line :=
  ⟨⟨h.1.1, h.1.2.1, h.1.2.2.1, rfl⟩, h.2⟩

theorem shows_ctlDir (h : Shows s.pins data addr line) (g : Sig) (d : Dir) :
    Shows (ctlDir g d s).pins data addr (Function.update line g ⟨d, (line g).out⟩) := by
  refine ⟨h.1, fun k => ?_⟩
  obtain ⟨hdir, hout⟩ := h.2 k
  have hdir' : (ctlDir g d s).pins.dirOf k = if g = k then d else s.pins.dirOf k := dirOf_set ..
  change _ ∧ s.pins.outOf k = _
  by_cases hk : g = k
  · subst hk; exact ⟨by simp [hdir'], by simpa using hout⟩
  · exact ⟨by simp [hdir', hk, Ne.symm hk, hdir], by simpa [Ne.symm hk] using hout⟩

theorem shows_ctlWrite (h : Shows s.pins data addr line) (g : Sig) (b : Bool) :
    Shows (ctlWrite g b s).pins data addr (Function.update line g ⟨(line g).dir, b⟩) := by
  refine ⟨h.1, fun k => ?_⟩
  obtain ⟨hdir, hout⟩ := h.2 k
  have hout' : (ctlWrite g b s).pins.outOf k = if g = k then b else s.pins.outOf k := outOf_set ..
  change s.pins.dirOf k = _ ∧ _
  by_cases hk : g = k
  · subst hk; exact ⟨by simpa using hdir, by simp [hout']⟩
  · exact ⟨by simpa [Ne.symm hk] using hdir, by simp [hout', hk, Ne.symm hk, hout]⟩

/-- A signal other than `TEST` gets a direction; `TEST` stays as it is. -/
theorem shows_ctlDir_line (h : Shows s.pins data addr (Function.update line .test test)) {g : Sig} (hg : g ≠ .test)
    {d : Dir} (hline : Function.update line g ⟨d, (line g).out⟩ = line') :
    Shows (ctlDir g d s).pins data addr (Function.update line' .test test) := by
  have := shows_ctlDir h g d
  rwa [Function.update_of_ne hg, Function.update_comm hg.symm, hline] at this

/-- A signal other than `TEST` gets a level; `TEST` stays as it is. -/
theorem shows_ctlWrite_line (h : Shows s.pins data addr (Function.update line .test test)) {g : Sig} (hg : g ≠ .test)
    {b : Bool} (hline : Function.update line g ⟨(line g).dir, b⟩ = line') :
    Shows (ctlWrite g b s).pins data addr (Function.update line' .test test) := by
  have := shows_ctlWrite h g b
  rwa [Function.update_of_ne hg, Function.update_comm hg.symm, hline] at this

theorem shows_ctlDir_test (h : Shows s.pins data addr (restLine test)) (d : Dir) :
    Shows (ctlDir .test d s).pins data addr (restLine ⟨d, test.out⟩) := by
  simpa [restLine] using shows_ctlDir h .test d

theorem shows_ctlWrite_test (h : Shows s.pins data addr (restLine test)) (b : Bool) :
    Shows (ctlWrite .test b s).pins data addr (restLine ⟨test.dir, b⟩) := by
  simpa [restLine] using shows_ctlWrite h .test b

end

/-- The pins at rest in mode `m`. -/
abbrev PinsRest (m : Mode) (p : Pins) : Prop := Shows p idleBus idleBus (restLine (testLine m .none))

/-! ### The commands that drive nothing -/

/-- The commands that move pins (R32, R210, R231); `FULLPASS` moves those of its stages. -/
def movesPins : Instr → Bool
  | .activate | .deactivate | .verifyData | .verifyAddr | .verifyCtrl | .crosstalk | .fullpass => true
  | _ => false

theorem runLine_eq_quietLine {i : Instr} (hctrl : i ≠ .verifyCtrl) (hxt : i ≠ .crosstalk) (q : Seq) :
    runLine i q = quietLine := by
  funext g
  cases i <;> first | rfl | contradiction

theorem runningPins_iff_rest {i : Instr} (h : movesPins i = false) {q : Seq} {m : Mode} {p : Pins} :
    runningPins i q m p ↔ PinsRest m p := by
  have hline : runLine i q = quietLine := runLine_eq_quietLine (by rintro rfl; cases h) (by rintro rfl; cases h) q
  rw [runningPins_iff, hline]
  cases i with
  | activate | deactivate | verifyData | verifyAddr | verifyCtrl | crosstalk | fullpass => cases h
  | _ => simp [PinsRest, runDataPins, runAddrPins, runningTestLine, restLine]

theorem rstopTurn_pins (d : PassDir) (ops : List CellOp) (v : CellVal) (n : Nat) (s : State) :
    (rstopTurn d ops v n s).pins = s.pins := by
  obtain ⟨-, h⟩ | ⟨-, -, h⟩ | ⟨-, -, h⟩ := rstopTurn_cases d ops v n s <;> rw [h] <;> simp

theorem passStep_pins (d : PassDir) (ops : List CellOp) (s : State) : (passStep d ops s).pins = s.pins := by
  unfold passStep cellOp
  split
  · split
    case h_4 => exact rstopTurn_pins ..
    all_goals simp
  · simp

theorem memBody_pins (top : Bool) (pat : Option Byte) (phases : List MemPhase) (s : State) :
    (memBody top pat phases s).state.pins = s.pins := by
  obtain ⟨-, h⟩ | ⟨j, -, -, h⟩ | ⟨j, d, ops, -, -, -, h⟩ | ⟨j, ms, n, -, -, -, h⟩ | ⟨j, p, -, -, h⟩ :=
    memBody_cases top pat phases s <;> rw [h]
  · simp
  · simp
  · exact passStep_pins ..
  · simp
  · unfold endPhase
    split <;> simp

theorem suiteBody_pins (top : Bool) (s : State) : (suiteBody top s).state.pins = s.pins := by
  have hcall : (memAlgorithmBody (suiteCall s.cfg s.seq.call) s).state.pins = s.pins := by
    obtain h | ⟨pat, phases, h⟩ := memAlgorithmBody_eq (suiteCall s.cfg s.seq.call) s <;> rw [h]
    · rfl
    · exact memBody_pins ..
  generalize hr : suiteBody top s = r
  have hstep : SuiteStep top s r := hr ▸ suiteBody_step top s
  cases hstep with
  | prologue | cancel => rfl
  | call _ t h | nextCall t h | last t h => simpa [h] using hcall

theorem sampleBody_pins (s : State) : (sampleBody s).state.pins = s.pins := by
  unfold sampleBody
  split <;> simp

theorem bodyIn_pins {i : Instr} (h : movesPins i = false) (top : Bool) (s : State) :
    (bodyIn top i s).state.pins = s.pins := by
  cases hrow : memTable i with
  | some row => rw [bodyIn_of_memTable hrow]; exact memBody_pins ..
  | none =>
    cases i with
    | nop | clear => rfl
    | sample => exact sampleBody_pins s
    | suite => exact suiteBody_pins top s
    | activate | deactivate | verifyData | verifyAddr | verifyCtrl | crosstalk | fullpass => cases h
    | _ => cases hrow

/-! ### ACTIVATE and DEACTIVATE: `TEST` alone -/

theorem runningPins_activate {q : Seq} {m : Mode} {p : Pins} :
    runningPins .activate q m p ↔ Shows p idleBus idleBus (restLine (runningTestLine .activate q.op m)) := by
  rw [runningPins_iff, runLine_eq_quietLine (by simp) (by simp)]
  simp [runDataPins, runAddrPins, restLine]

theorem runningPins_deactivate {q : Seq} {m : Mode} {p : Pins} :
    runningPins .deactivate q m p ↔ Shows p idleBus idleBus (restLine (runningTestLine .deactivate q.op m)) := by
  rw [runningPins_iff, runLine_eq_quietLine (by simp) (by simp)]
  simp [runDataPins, runAddrPins, restLine]

theorem activateBody_pins {s : State} {m : Mode} (h : runningPins .activate s.seq m s.pins) :
    (activateBody s).Comes (fun t => runningPins .activate t.seq m t.pins) (fun t => PinsRest .owned t.pins)
      (fun t => Shows t.pins idleBus idleBus (restLine (testLine .halted t.fatal))) := by
  simp only [runningPins_activate] at h ⊢
  unfold activateBody
  split
  case h_1 hop => simpa [runningTestLine, hop] using shows_ctlDir_test h .input
  case h_2 hop => simpa [runningTestLine, hop] using h
  case h_3 hop =>
    split
    · simpa [runningTestLine, testLine, hop] using h
    · simpa [runningTestLine, hop] using shows_ctlDir_test h .output
  case h_4 hop => simpa [runningTestLine, hop] using shows_ctlWrite_test h true
  case h_5 hop =>
    split_ifs
    · simpa [runningTestLine, hop] using h
    · simpa [PinsRest, runningTestLine, testLine, hop] using h
    · simpa [runningTestLine, testLine, hop] using h
  case h_6 h0 h1 h2 h3 h4 =>
    have hop : ¬ s.seq.op ≤ 2 ∧ s.seq.op ≠ 3 := by grind
    simpa [runningTestLine, hop] using h

theorem deactivateBody_pins {s : State} {m : Mode} (h : runningPins .deactivate s.seq m s.pins) :
    (deactivateBody s).Comes (fun t => runningPins .deactivate t.seq m t.pins)
      (fun t => PinsRest .released t.pins)
      (fun t => Shows t.pins idleBus idleBus (restLine (testLine .halted t.fatal))) := by
  simp only [runningPins_deactivate] at h ⊢
  unfold deactivateBody
  split
  case h_1 hop => simpa [runningTestLine, hop] using shows_ctlWrite_test h false
  case h_2 hop =>
    split_ifs
    · simpa [runningTestLine, hop] using h
    · simpa [runningTestLine, hop] using shows_ctlDir_test h .input
    · simpa [runningTestLine, testLine, hop] using h
  case h_3 hop => simpa [runningTestLine, hop] using h
  case h_4 h0 h1 h2 =>
    have hop : s.seq.op ≠ 0 ∧ ¬ s.seq.op ≤ 2 := by grind
    simpa [PinsRest, runningTestLine, testLine, hop] using h

/-! ### The test of a bus: that bus alone -/

/-- R155, R158: the command that tests a bus. -/
def Bus.command : Bus → Instr
  | .data => .verifyData
  | .address => .verifyAddr

/-- The pins with bus `b` as given and everything else at rest. -/
def ShowsBus (b : Bus) (p : Pins) (bus : Dir × BitVec 16) (m : Mode) : Prop :=
  match b with
  | .data => Shows p bus idleBus (restLine (testLine m .none))
  | .address => Shows p idleBus bus (restLine (testLine m .none))

theorem runningPins_bus {b : Bus} {q : Seq} {m : Mode} {p : Pins} :
    runningPins b.command q m p ↔ ShowsBus b p (busPins b.ones q.phase q.op) m := by
  rw [runningPins_iff, runLine_eq_quietLine (by cases b <;> simp [Bus.command]) (by cases b <;> simp [Bus.command])]
  cases b <;> simp [Bus.command, ShowsBus, runDataPins, runAddrPins, runningTestLine, restLine]

theorem showsBus_idle {b : Bus} {p : Pins} {m : Mode} : ShowsBus b p idleBus m ↔ PinsRest m p := by
  cases b <;> rfl

section
variable {b : Bus} {s : State} {bus : Dir × BitVec 16} {m : Mode}

theorem showsBus_busDir (h : ShowsBus b s.pins bus m) (d : Dir) : ShowsBus b (busDir b d s).pins (d, bus.2) m := by
  cases b with
  | data => exact shows_dataDir h d
  | address => exact shows_addrDir h d

theorem showsBus_busWrite (h : ShowsBus b s.pins bus m) (v : BitVec 16) :
    ShowsBus b (busWrite b v s).pins (bus.1, v) m := by
  cases b with
  | data => exact shows_dataWrite h rfl
  | address => exact shows_addrWrite h v

theorem busPins_cleanup {ones : BitVec 16} {phase op : Nat} (h : 4 ≤ phase) :
    busPins ones phase op =
      if op = 0 then (.output, ones) else if op = 1 then (.output, 0#16) else (.input, 0#16) := by
  obtain ⟨k, rfl⟩ := Nat.exists_eq_add_of_le' h
  rfl

theorem verifyBusBody_pins (top : Bool) (h : runningPins b.command s.seq m s.pins) :
    (verifyBusBody b top s).Comes (fun t => runningPins b.command t.seq m t.pins) (fun t => PinsRest m t.pins)
      (fun _ => False) := by
  simp only [runningPins_bus, ← showsBus_idle (b := b)] at h ⊢
  unfold verifyBusBody
  split
  case h_1 hp => simpa [busPins, hp] using h
  case h_2 hp =>
    unfold verifyDriveLow
    split
    case h_1 hop => simpa [busPins, hp, hop] using showsBus_busDir h .output
    case h_2 hop => simpa [busPins, hp, hop] using showsBus_busWrite h 0#16
    case h_3 hop => simpa [busPins, hp, hop] using h
    case h_4 hop0 _ _ => simpa [busPins, hp, show s.seq.op ≠ 0 from hop0] using h
  case h_3 hp =>
    unfold verifyConfirm verifyDecide verifyNextLine
    split
    · split_ifs <;> simpa [busPins, hp] using h
    · simpa [busPins, hp] using h
  case h_4 hp =>
    unfold verifyDriveHigh
    split
    case h_1 hop => simpa [busPins, hp, hop] using showsBus_busWrite h b.ones
    case h_2 hop => simpa [busPins, hp, hop] using h
    case h_3 hop0 _ => simpa [busPins, hp, show s.seq.op ≠ 0 from hop0] using h
  case h_5 h0 h1 h2 h3 =>
    have hp : 4 ≤ s.seq.phase := by grind
    rw [busPins_cleanup hp] at h
    unfold verifyCleanup
    split
    case h_1 hop => simpa [busPins_cleanup hp, hop] using showsBus_busWrite h 0#16
    case h_2 hop => simpa [busPins_cleanup hp, hop] using showsBus_busDir h .input
    case h_3 hop0 hop1 => simpa [show s.seq.op ≠ 0 from hop0, show s.seq.op ≠ 1 from hop1] using h

end

end Sys2Proof.Machine
end

section
/-! The pins in the test of the control set (R161 to R163) and in `CROSSTALK` (R185), for O50. -/

namespace Sys2Proof.Machine
open Sys2Proof

/-! ### VERIFY_CTRL -/

/-- The seven signals of `G` as given, the others quiescent. -/
def steadyLine (l : LineState) (g : Sig) : LineState := if g.idx.val ≤ 6 then l else quietLine g

theorem steadyLine_quiet : steadyLine ⟨.input, false⟩ = quietLine := by
  funext g
  cases g <;> rfl

theorem ctrlLine_eq {q : Seq} {g : Sig} (hW : ¬ (q.phase = 3 ∧ 4 ≤ q.op ∧ q.op ≤ 6 ∧ g = sigW q.posk)) :
    ctrlLine q g =
      if g.idx.val ≤ 6 then ctrlGLine g.idx.val (q.posk - 24) q.phase q.op else quietLine g := by
  cases g <;> first | rfl | exact if_neg hW

/-- A position of the walk at which all seven signals are alike. -/
theorem ctrlLine_steady {q : Seq} {l : LineState} (hG : ∀ j, ctrlGLine j (q.posk - 24) q.phase q.op = l)
    (hW : q.phase = 3 → 4 ≤ q.op → 6 < q.op) : ctrlLine q = steadyLine l := by
  funext g
  rw [ctrlLine_eq (by omega), hG, steadyLine]

theorem sigG_idx {k : Nat} (hk : 24 ≤ k ∧ k ≤ 30) : (sigG k).idx.val = k - 24 := by
  obtain ⟨h, h'⟩ := hk
  interval_cases k <;> rfl

theorem sigG_ne_test (k : Nat) : sigG k ≠ .test := by
  unfold sigG
  split <;> simp

theorem sigW_ne_test (k : Nat) : sigW k ≠ .test := by
  unfold sigW
  split <;> simp

/-- R161: one signal of the walk over `G` goes from `before` to `after`; the walk is then one signal further, or, at
its last, at step `o` with all seven at `after`. -/
theorem ctrlLine_walk {q q' : Seq} {o : Nat} {before after : LineState} (hk : 24 ≤ q.posk ∧ q.posk ≤ 30)
    (hG : ∀ j c, ctrlGLine j c q.phase q.op = if j < c then after else before)
    (hdone : ∀ j, ctrlGLine j 0 q.phase o = after) (hop : q.op ≤ 3) (ho : o ≤ 3)
    (hq' : q' = { q with
      posk := if q.posk < 30 then q.posk + 1 else 24, op := if q.posk < 30 then q.op else o, sample := 0 }) :
    ctrlLine q (sigG q.posk) = before ∧ Function.update (ctrlLine q) (sigG q.posk) after = ctrlLine q' := by
  have hidx := sigG_idx hk
  have hq : ∀ g, ctrlLine q g = _ := fun g => ctrlLine_eq (by omega)
  refine ⟨by rw [hq, hidx, if_pos (by omega), hG, if_neg (by omega)], ?_⟩
  funext g
  have hop' : q'.op ≤ 3 := by rw [hq']; dsimp only; split <;> omega
  rw [ctrlLine_eq (q := q') (by omega)]
  by_cases hg : g = sigG q.posk
  · subst hg
    rw [Function.update_self, hidx, if_pos (by omega), hq']
    by_cases hlast : q.posk < 30
    · simp [hlast, hG]; omega
    · simp [hlast, hdone]
  · have hne : g.idx.val ≠ q.posk - 24 := fun h =>
      hg (Sig.idx_injective (Fin.ext (by omega)))
    rw [Function.update_of_ne hg, hq, hq']
    by_cases hin : g.idx.val ≤ 6
    · by_cases hlast : q.posk < 30
      · have : g.idx.val < q.posk - 23 ↔ g.idx.val < q.posk - 24 := by omega
        simp [hin, hlast, hG, this]
      · have : g.idx.val < q.posk - 24 := by omega
        simp [hin, hlast, hG, hdone, this]
    · simp [hin]

theorem ctrlGLine_cleanup {j c phase op : Nat} (h : 4 ≤ phase) :
    ctrlGLine j c phase op = if op = 0 then ⟨if j < c then .input else .output, false⟩ else ⟨.input, false⟩ := by
  obtain ⟨k, rfl⟩ := Nat.exists_eq_add_of_le' h
  rfl

theorem ctrlPosk_cleanup {q : Seq} (h : 4 ≤ q.phase) : ctrlPosk q = (q.op = 0 → 24 ≤ q.posk ∧ q.posk ≤ 30) := by
  obtain ⟨k, hk⟩ := Nat.exists_eq_add_of_le' h
  simp [ctrlPosk, hk]

/-- R162: while a write-only signal is tested, it alone of the signals outside `G` is an input. -/
theorem ctrlLine_window {q : Seq} (hp : q.phase = 3) (hop : 4 ≤ q.op ∧ q.op ≤ 6) :
    ctrlLine q = Function.update (steadyLine ⟨.output, false⟩) (sigW q.posk) ⟨.input, false⟩ := by
  have hG : ∀ j, ctrlGLine j (q.posk - 24) q.phase q.op = ⟨.output, false⟩ := by
    intro j
    simp [ctrlGLine, hp]; omega
  funext g
  by_cases hg : g = sigW q.posk
  · rw [hg, Function.update_self]
    unfold sigW
    split <;> simp [ctrlLine, sigW, *]
  · rw [Function.update_of_ne hg, ctrlLine_eq (by simp [hg]), hG, steadyLine]

theorem sigW_steady (k : Nat) (d : Dir) :
    ⟨d, (steadyLine ⟨.output, false⟩ (sigW k)).out⟩ = (⟨d, false⟩ : LineState) := by
  unfold sigW
  split <;> rfl

theorem update_sigW_steady (k : Nat) :
    Function.update (steadyLine ⟨.output, false⟩) (sigW k) ⟨.output, false⟩ = steadyLine ⟨.output, false⟩ := by
  rw [Function.update_eq_self_iff]
  unfold sigW
  split <;> rfl

/-- The pins with the control signals as given and everything else at rest. -/
abbrev ShowsLines (p : Pins) (line : Sig → LineState) (m : Mode) : Prop :=
  Shows p idleBus idleBus (Function.update line .test (testLine m .none))

theorem runningPins_ctrl {q : Seq} {m : Mode} {p : Pins} :
    runningPins .verifyCtrl q m p ↔ ShowsLines p (ctrlLine q) m ∧ ctrlPosk q := by
  rw [runningPins_iff, show runLine .verifyCtrl q = ctrlLine q from rfl]
  simp [runDataPins, runAddrPins, runningTestLine]

section
variable {s : State} {m : Mode} {q' : Seq} {l : LineState}

/-- A step that leaves the pins, between two positions at which the seven signals are alike. -/
theorem runningPins_ctrl_still {t : State} (h : ShowsLines s.pins (steadyLine l) m) (hpins : t.pins = s.pins)
    (hG : ∀ j, ctrlGLine j (t.seq.posk - 24) t.seq.phase t.seq.op = l)
    (hW : t.seq.phase = 3 → 4 ≤ t.seq.op → 6 < t.seq.op) (hposk : ctrlPosk t.seq) :
    runningPins .verifyCtrl t.seq m t.pins := by
  rw [runningPins_ctrl, hpins, ctrlLine_steady hG hW]
  exact ⟨h, hposk⟩

theorem runningPins_ctrl_steady (h : runningPins .verifyCtrl s.seq m s.pins)
    (hG : ∀ j, ctrlGLine j (s.seq.posk - 24) s.seq.phase s.seq.op = l)
    (hW : s.seq.phase = 3 → 4 ≤ s.seq.op → 6 < s.seq.op) : ShowsLines s.pins (steadyLine l) m := by
  rw [runningPins_ctrl, ctrlLine_steady hG hW] at h
  exact h.1

theorem ctrlDriveLow_pins (top : Bool) (hp : s.seq.phase = 1) (h : runningPins .verifyCtrl s.seq m s.pins) :
    runningPins .verifyCtrl (ctrlDriveLow top s).seq m (ctrlDriveLow top s).pins := by
  have hposk : 24 ≤ s.seq.posk ∧ s.seq.posk ≤ 30 := by
    have := (runningPins_ctrl.mp h).2
    simpa [ctrlPosk, hp] using this
  unfold ctrlDriveLow
  split
  case h_1 hop =>
    obtain ⟨hbefore, hwalk⟩ := ctrlLine_walk (before := ⟨.input, false⟩) (after := ⟨.output, false⟩) (o := 1) hposk
      (fun j c => by simp [ctrlGLine, hp, hop]; split <;> rfl) (fun j => by simp [ctrlGLine, hp]) (by omega)
      (by omega) rfl
    rw [runningPins_ctrl] at h ⊢
    refine ⟨?_, ?_⟩
    · simpa using shows_ctlDir_line h.1 (sigG_ne_test _) (by rw [hbefore]; exact hwalk)
    · simp [ctrlPosk, hp]; split <;> omega
  case h_2 hop =>
    obtain ⟨hbefore, hwalk⟩ := ctrlLine_walk (before := ⟨.output, false⟩) (after := ⟨.output, true⟩) (o := 2) hposk
      (fun j c => by simp [ctrlGLine, hp, hop]; split <;> simp [*]) (fun j => by simp [ctrlGLine, hp]) (by omega)
      (by omega) rfl
    rw [runningPins_ctrl] at h ⊢
    refine ⟨?_, ?_⟩
    · simpa using shows_ctlWrite_line h.1 (sigG_ne_test _) (by rw [hbefore]; exact hwalk)
    · simp [ctrlPosk, hp]; split <;> omega
  case h_3 hop =>
    have hs := runningPins_ctrl_steady h (l := ⟨.output, true⟩) (by simp [ctrlGLine, hp, hop]) (by omega)
    exact runningPins_ctrl_still hs (by simp) (by simp [ctrlGLine, hp]) (by simp [hp]) (by simp [ctrlPosk, hp])
  case h_4 h0 h1 h2 =>
    have hs := runningPins_ctrl_steady h (l := ⟨.output, true⟩)
      (by simp [ctrlGLine, hp, show s.seq.op ≠ 0 from h0, show s.seq.op ≠ 1 from h1]) (by omega)
    dsimp only
    split
    · refine runningPins_ctrl_still hs (by simp) (by simp [ctrlGLine, hp]) (by simp [hp]) ?_
      simp [ctrlPosk, hp]; omega
    · exact runningPins_ctrl_still hs (by simp) (by simp [ctrlGLine]) (by simp) (by simp [ctrlPosk])

theorem ctrlConfirm_pins (top : Bool) (hp : s.seq.phase = 2) (h : runningPins .verifyCtrl s.seq m s.pins) :
    runningPins .verifyCtrl (ctrlConfirm top s).seq m (ctrlConfirm top s).pins := by
  have hposk : 24 ≤ s.seq.posk ∧ s.seq.posk ≤ 31 := by
    have := (runningPins_ctrl.mp h).2
    simpa [ctrlPosk, hp] using this
  have hs := runningPins_ctrl_steady h (l := ⟨.output, true⟩) (by simp [ctrlGLine, hp]) (by omega)
  have hnext (u : State) (hu : u.seq = s.seq ∧ u.pins = s.pins) (hlast : s.seq.posk ≤ 30) :
      runningPins .verifyCtrl (ctrlNextLine u).seq m (ctrlNextLine u).pins := by
    refine runningPins_ctrl_still hs (by simp [ctrlNextLine, hu]) (by simp [ctrlNextLine, hu, ctrlGLine, hp])
      (by simp [ctrlNextLine, hu, hp]) ?_
    simp [ctrlNextLine, hu, ctrlPosk, hp]; omega
  unfold ctrlConfirm
  split
  · split
    · exact runningPins_ctrl_still hs (by simp) (by simp [ctrlGLine]) (by simp) (by simp [ctrlPosk])
    split
    · exact hnext s ⟨rfl, rfl⟩ (by omega)
    split
    · exact runningPins_ctrl_still hs (by simp) (by simp [ctrlGLine, hp]) (by simp [hp]) (by simp [ctrlPosk, hp, hposk])
    · exact hnext _ (by split <;> exact ⟨rfl, rfl⟩) (by omega)
  · exact runningPins_ctrl_still hs (by simp) (by simp [ctrlGLine, hp]) (by simp [hp]) (by simp [ctrlPosk, hp, hposk])

theorem ctrlDriveHigh_pins (top : Bool) (hp : s.seq.phase = 3) (h : runningPins .verifyCtrl s.seq m s.pins) :
    runningPins .verifyCtrl (ctrlDriveHigh top s).seq m (ctrlDriveHigh top s).pins := by
  have hposk := (runningPins_ctrl.mp h).2
  simp only [ctrlPosk, hp] at hposk
  have hs (hop : s.seq.op ≠ 0 ∧ (4 ≤ s.seq.op → 6 < s.seq.op)) :
      ShowsLines s.pins (steadyLine ⟨.output, false⟩) m :=
    runningPins_ctrl_steady h (by simp [ctrlGLine, hp, hop.1]) fun _ => hop.2
  have hwindow (hop : 4 ≤ s.seq.op ∧ s.seq.op ≤ 6) : ShowsLines s.pins
      (Function.update (steadyLine ⟨.output, false⟩) (sigW s.seq.posk) ⟨.input, false⟩) m := by
    rw [← ctrlLine_window hp hop]
    exact (runningPins_ctrl.mp h).1
  unfold ctrlDriveHigh
  split
  case h_1 hop =>
    have hk : 24 ≤ s.seq.posk ∧ s.seq.posk ≤ 30 := by simpa [hop] using hposk
    obtain ⟨hbefore, hwalk⟩ := ctrlLine_walk (before := ⟨.output, true⟩) (after := ⟨.output, false⟩) (o := 1) hk
      (fun j c => by simp [ctrlGLine, hp, hop]; split <;> simp [*]) (fun j => by simp [ctrlGLine, hp]) (by omega)
      (by omega) rfl
    rw [runningPins_ctrl] at h ⊢
    refine ⟨?_, ?_⟩
    · simpa using shows_ctlWrite_line h.1 (sigG_ne_test _) (by rw [hbefore]; exact hwalk)
    · simp [ctrlPosk, hp]; split <;> simp [hop]; omega
  case h_2 hop =>
    exact runningPins_ctrl_still (hs (by omega)) (by simp) (by simp [ctrlGLine, hp]) (by simp) (by simp [ctrlPosk, hp])
  case h_3 hop =>
    have hk : 24 ≤ s.seq.posk ∧ s.seq.posk ≤ 30 := by simpa [hop] using hposk
    dsimp only
    split
    · refine runningPins_ctrl_still (hs (by omega)) (by simp) (by simp [ctrlGLine, hp]) (by simp) ?_
      simp [ctrlPosk, hp]; omega
    · exact runningPins_ctrl_still (hs (by omega)) (by simp) (by simp [ctrlGLine, hp]) (by simp) (by simp [ctrlPosk, hp])
  case h_4 hop =>
    rw [runningPins_ctrl, ctrlLine_window (by simp [hp]) (by simp)]
    refine ⟨?_, by simpa [ctrlPosk, hp, hop] using hposk⟩
    exact shows_ctlDir_line (hs (by omega)) (sigW_ne_test _) (by rw [sigW_steady]; rfl)
  case h_5 hop =>
    rw [runningPins_ctrl, ctrlLine_window (by simp [hp]) (by simp)]
    exact ⟨by simpa using hwindow (by omega), by simpa [ctrlPosk, hp, hop] using hposk⟩
  case h_6 hop =>
    rw [runningPins_ctrl, ctrlLine_window (by simp [hp]) (by simp)]
    exact ⟨by simpa using hwindow (by omega), by simpa [ctrlPosk, hp, hop] using hposk⟩
  case h_7 hop =>
    have hdone : ShowsLines (ctlDir (sigW s.seq.posk) .output s).pins (steadyLine ⟨.output, false⟩) m :=
      shows_ctlDir_line (hwindow (by omega)) (sigW_ne_test _) (by
        rw [Function.update_self, Function.update_idem, update_sigW_steady])
    dsimp only
    split
    · exact runningPins_ctrl_still hdone (by simp) (by simp [ctrlGLine, hp]) (by simp) (by simp [ctrlPosk, hp])
    · exact runningPins_ctrl_still hdone (by simp) (by simp [ctrlGLine, hp]) (by simp) (by simp [ctrlPosk, hp])
  case h_8 =>
    have hop : 6 < s.seq.op := by grind
    dsimp only
    split
    · exact runningPins_ctrl_still (hs (by omega)) (by simp) (by simp [ctrlGLine, hp]) (by simp) (by simp [ctrlPosk, hp])
    · exact runningPins_ctrl_still (hs (by omega)) (by simp) (by simp [ctrlGLine]) (by simp) (by simp [ctrlPosk])

theorem ctrlCleanup_pins (hp : 4 ≤ s.seq.phase) (h : runningPins .verifyCtrl s.seq m s.pins) :
    (ctrlCleanup s).Comes (fun t => runningPins .verifyCtrl t.seq m t.pins) (fun t => PinsRest m t.pins)
      (fun _ => False) := by
  have hposk := (runningPins_ctrl.mp h).2
  rw [ctrlPosk_cleanup hp] at hposk
  unfold ctrlCleanup
  split
  case h_1 hop =>
    obtain ⟨hbefore, hwalk⟩ := ctrlLine_walk (before := ⟨.output, false⟩) (after := ⟨.input, false⟩) (o := 1) (hposk hop)
      (fun j c => by rw [ctrlGLine_cleanup hp, if_pos hop]; split <;> rfl)
      (fun j => by rw [ctrlGLine_cleanup hp, if_neg (by decide)]) (by omega) (by omega) rfl
    rw [comes_more, runningPins_ctrl]
    refine ⟨?_, ?_⟩
    · simpa using shows_ctlDir_line (runningPins_ctrl.mp h).1 (sigG_ne_test _) (by rw [hbefore]; exact hwalk)
    · rw [ctrlPosk_cleanup (by simpa using hp)]
      simp; split <;> omega
  case h_2 hop =>
    have hs := runningPins_ctrl_steady h (l := ⟨.input, false⟩)
      (by simp [ctrlGLine_cleanup hp, show s.seq.op ≠ 0 from hop]) (by omega)
    rw [steadyLine_quiet] at hs
    exact hs

theorem verifyCtrlBody_pins (top : Bool) (h : runningPins .verifyCtrl s.seq m s.pins) :
    (verifyCtrlBody top s).Comes (fun t => runningPins .verifyCtrl t.seq m t.pins) (fun t => PinsRest m t.pins)
      (fun _ => False) := by
  unfold verifyCtrlBody
  split
  case h_1 hp =>
    have hs := runningPins_ctrl_steady h (l := ⟨.input, false⟩) (by simp [ctrlGLine, hp]) (by omega)
    exact runningPins_ctrl_still hs (by simp [ctrlPrologue]) (by simp [ctrlPrologue, ctrlGLine])
      (by simp [ctrlPrologue]) (by simp [ctrlPrologue, ctrlPosk])
  case h_2 hp => exact ctrlDriveLow_pins top hp h
  case h_3 hp => exact ctrlConfirm_pins top hp h
  case h_4 hp => exact ctrlDriveHigh_pins top hp h
  case h_5 => exact ctrlCleanup_pins (by grind) h

end

end Sys2Proof.Machine
end

section
/-! The pins in `CROSSTALK` (R185), and O50. -/

namespace Sys2Proof.Machine
open Sys2Proof

/-! ### CROSSTALK: one position driven -/

/-- R185: the bus of a driven line at step `op`, the line's value `v`. -/
def lineBus (v : BitVec 16) (op : Nat) : Dir × BitVec 16 :=
  if 1 ≤ op ∧ op ≤ 34 then (.output, if 2 ≤ op ∧ op ≤ 33 then v else 0#16) else (.input, 0#16)

/-- R185: the data bus while a position with driver `d` is at step `op`. -/
def Driver.dataBus (d : Driver) (op : Nat) : Dir × BitVec 16 :=
  match d with
  | .dataLine i => lineBus (1#16 <<< i) op
  | _ => (.input, 0#16)

/-- R185: the address bus. -/
def Driver.addrBus (d : Driver) (op : Nat) : Dir × BitVec 16 :=
  match d with
  | .addrLine i => lineBus (1#16 <<< i) op
  | _ => (.input, 0#16)

/-- R185: the control signals other than `TEST`. -/
def Driver.line (d : Driver) (op : Nat) : Sig → LineState :=
  match d with
  | .generic g =>
    if 1 ≤ op ∧ op ≤ 34 then Function.update quietLine g ⟨.output, decide (2 ≤ op ∧ op ≤ 33)⟩ else quietLine
  | .writeOnly g => Function.update quietLine g ⟨.output, decide (1 ≤ op ∧ op ≤ 33)⟩
  | _ => quietLine

/-- The pins while a position with driver `d` is at step `op`. -/
abbrev ShowsDriver (p : Pins) (d : Driver) (op : Nat) (m : Mode) : Prop :=
  Shows p (d.dataBus op) (d.addrBus op) (Function.update (d.line op) .test (testLine m .none))

/-- R33, R185: the signals of class G are inputs at rest, the write-only ones outputs. -/
def Driver.Legal : Driver → Prop
  | .addrLine _ | .dataLine _ => True
  | .generic g => g ≠ .test ∧ quietLine g = ⟨.input, false⟩
  | .writeOnly g => g ≠ .test ∧ quietLine g = ⟨.output, false⟩

theorem driverOf_legal (p : Nat) : (driverOf p).Legal := by
  unfold driverOf
  split
  · trivial
  split
  · trivial
  split <;> simp [Driver.Legal, quietLine]

theorem driverOf_bus (p : Nat) :
    (driverOf p = .addrLine p ∧ p < 16) ∨ (driverOf p = .dataLine (p - 16) ∧ 16 ≤ p ∧ p < 24) ∨
    (24 ≤ p ∧ ∃ g, driverOf p = .generic g ∨ driverOf p = .writeOnly g) := by
  unfold driverOf
  split
  · exact .inl ⟨rfl, ‹_›⟩
  split
  · exact .inr (.inl ⟨rfl, by omega⟩)
  refine .inr (.inr ⟨by omega, ?_⟩)
  split <;> simp

theorem xtLine_eq (posk op : Nat) : xtLine posk op = (driverOf posk).line op := by
  funext g
  unfold xtLine Driver.line
  cases driverOf posk with
  | addrLine i | dataLine i => simp
  | generic k =>
    by_cases hg : g = k
    · subst hg; split_ifs <;> simp_all
    · split_ifs <;> simp_all [Ne.symm hg]
  | writeOnly k =>
    by_cases hg : g = k
    · subst hg; simp
    · simp [hg, Ne.symm hg]

theorem runningPins_position {q : Seq} {m : Mode} {p : Pins} (hp : q.phase ≠ 0) :
    runningPins .crosstalk q m p ↔ ShowsDriver p (driverOf q.posk) q.op m := by
  have hline : runLine .crosstalk q = (driverOf q.posk).line q.op := by
    rw [← xtLine_eq]
    funext g
    simp [runLine, hp]
  have hbuses : runDataPins .crosstalk q = (driverOf q.posk).dataBus q.op ∧
      runAddrPins .crosstalk q = (driverOf q.posk).addrBus q.op := by
    unfold runDataPins runAddrPins
    obtain ⟨h, hk⟩ | ⟨h, hk, hk'⟩ | ⟨hk, g, h | h⟩ := driverOf_bus q.posk <;> rw [h]
    · have : ¬ 16 ≤ q.posk := by omega
      simp [Driver.dataBus, Driver.addrBus, lineBus, hp, hk, this]
    · have : ¬ q.posk < 16 := by omega
      simp [Driver.dataBus, Driver.addrBus, lineBus, hp, hk, hk', this]
    all_goals
      have : ¬ q.posk < 16 ∧ ¬ q.posk < 24 := by omega
      simp [Driver.dataBus, Driver.addrBus, this]
  rw [runningPins_iff, hline, hbuses.1, hbuses.2]
  simp [runningTestLine]

theorem runningPins_xtStart {q : Seq} {m : Mode} {p : Pins} (hp : q.phase = 0) :
    runningPins .crosstalk q m p ↔ PinsRest m p := by
  have hline : runLine .crosstalk q = quietLine := by
    funext g
    simp [runLine, hp]
  rw [runningPins_iff, hline]
  simp [runDataPins, runAddrPins, runningTestLine, PinsRest, restLine, hp]

section
variable {d : Driver} {m : Mode} {s : State} {p : Pins} {op op' : Nat}

/-- R185: at a position's first step and after its last the pins are at rest. -/
theorem showsDriver_rest (hd : d.Legal) (hop : op = 0 ∨ 35 ≤ op) : ShowsDriver p d op m ↔ PinsRest m p := by
  have h1 : ¬ (1 ≤ op ∧ op ≤ 34) := by omega
  have h2 : ¬ (1 ≤ op ∧ op ≤ 33) := by omega
  cases d with
  | addrLine i | dataLine i | generic g =>
    simp [ShowsDriver, PinsRest, restLine, Driver.dataBus, Driver.addrBus, Driver.line, lineBus, h1]
  | writeOnly g =>
    have : Function.update quietLine g ⟨.output, false⟩ = quietLine := by rw [← hd.2, Function.update_eq_self]
    simp [ShowsDriver, PinsRest, restLine, Driver.dataBus, Driver.addrBus, Driver.line, h2, this]

/-- R185: between `Drive` and `Release` the pins stay. -/
theorem ShowsDriver.driven (h : ShowsDriver p d op m) (hop : 2 ≤ op ∧ op ≤ 33) (hop' : 2 ≤ op' ∧ op' ≤ 33) :
    ShowsDriver p d op' m := by
  have h1 : 1 ≤ op ∧ op ≤ 34 := by omega
  have h1' : 1 ≤ op' ∧ op' ≤ 34 := by omega
  have h2 : 1 ≤ op ∧ op ≤ 33 := by omega
  have h2' : 1 ≤ op' ∧ op' ≤ 33 := by omega
  cases d <;>
    simpa [ShowsDriver, Driver.dataBus, Driver.addrBus, Driver.line, lineBus, hop, hop', h1, h1', h2, h2'] using h

theorem shiftLeft_setWidth (i : Nat) : (1#8 <<< i) = (1#16 <<< i).setWidth 8 := by
  apply BitVec.eq_of_getLsbD_eq
  intro k hk
  simp [hk]

theorem driveFirst_pins (h : ShowsDriver s.pins (driverOf s.seq.posk) 0 m) :
    ShowsDriver (driveFirst s.seq.posk s).pins (driverOf s.seq.posk) (if twoStep s.seq.posk then 1 else 2) m := by
  have hd := driverOf_legal s.seq.posk
  unfold driveFirst twoStep
  cases hdrv : driverOf s.seq.posk with
  | addrLine i => rw [hdrv] at h; exact shows_addrDir h .output
  | dataLine i => rw [hdrv] at h; exact shows_dataDir h .output
  | generic g =>
    rw [hdrv] at h hd
    exact shows_ctlDir_line h hd.1 (by simp [Driver.line, hd.2])
  | writeOnly g =>
    rw [hdrv] at h hd
    exact shows_ctlWrite_line h hd.1 (by simp [Driver.line])

theorem driveSecond_pins (h : ShowsDriver s.pins (driverOf s.seq.posk) 1 m) :
    ShowsDriver (driveSecond s.seq.posk s).pins (driverOf s.seq.posk) 2 m := by
  have hd := driverOf_legal s.seq.posk
  unfold driveSecond
  cases hdrv : driverOf s.seq.posk with
  | addrLine i => rw [hdrv] at h; exact shows_addrWrite h _
  | dataLine i => rw [hdrv] at h; exact shows_dataWrite h (shiftLeft_setWidth i)
  | generic g =>
    rw [hdrv] at h hd
    exact shows_ctlWrite_line h hd.1 (by simp [Driver.line])
  | writeOnly g => rwa [hdrv] at h

theorem releaseFirst_pins (h : ShowsDriver s.pins (driverOf s.seq.posk) 33 m) :
    ShowsDriver (releaseFirst s.seq.posk s).pins (driverOf s.seq.posk) (if twoStep s.seq.posk then 34 else 35) m := by
  have hd := driverOf_legal s.seq.posk
  unfold releaseFirst twoStep
  cases hdrv : driverOf s.seq.posk with
  | addrLine i => rw [hdrv] at h; exact shows_addrWrite h _
  | dataLine i => rw [hdrv] at h; exact shows_dataWrite h rfl
  | generic g =>
    rw [hdrv] at h hd
    exact shows_ctlWrite_line h hd.1 (by simp [Driver.line])
  | writeOnly g =>
    rw [hdrv] at h hd
    exact shows_ctlWrite_line h hd.1 (by simp [Driver.line])

theorem releaseSecond_pins (h : ShowsDriver s.pins (driverOf s.seq.posk) 34 m) :
    ShowsDriver (releaseSecond s.seq.posk s).pins (driverOf s.seq.posk) 35 m := by
  have hd := driverOf_legal s.seq.posk
  unfold releaseSecond
  cases hdrv : driverOf s.seq.posk with
  | addrLine i => rw [hdrv] at h; exact shows_addrDir h .input
  | dataLine i => rw [hdrv] at h; exact shows_dataDir h .input
  | generic g =>
    rw [hdrv] at h hd
    exact shows_ctlDir_line h hd.1 (by simp [Driver.line, hd.2])
  | writeOnly g => rwa [hdrv] at h

/-- The pins after a step within a position. -/
theorem runningPins_gotoOp {u : State} {o : Nat} (hp : s.seq.phase ≠ 0) (hu : u.seq = s.seq)
    (h : ShowsDriver u.pins (driverOf s.seq.posk) o m) :
    runningPins .crosstalk (u.gotoOp o).seq m (u.gotoOp o).pins := by
  rw [runningPins_position (by simpa [hu] using hp)]
  simpa [hu] using h

theorem xtPosition_pins (top : Bool) (hp : s.seq.phase ≠ 0) (h : runningPins .crosstalk s.seq m s.pins) :
    (xtPosition top s).Comes (fun t => runningPins .crosstalk t.seq m t.pins) (fun t => PinsRest m t.pins)
      (fun _ => False) := by
  rw [runningPins_position hp] at h
  have hd := driverOf_legal s.seq.posk
  have hstay {u : State} {o : Nat} (hu : u.seq = s.seq ∧ u.pins = s.pins) (hop : 2 ≤ s.seq.op ∧ s.seq.op ≤ 33)
      (ho : 2 ≤ o ∧ o ≤ 33) : runningPins .crosstalk (u.gotoOp o).seq m (u.gotoOp o).pins :=
    runningPins_gotoOp hp hu.1 (hu.2.symm ▸ h.driven hop ho)
  generalize hr : xtPosition top s = r
  have hstep : XtStep s top r := hr ▸ xtPosition_step s top
  cases hstep with
  | cancel hop => exact (showsDriver_rest hd (.inl hop)).mp h
  | driveFirst hop => exact runningPins_gotoOp hp (by simp) (driveFirst_pins (hop ▸ h))
  | driveSecond hop => exact runningPins_gotoOp hp (by simp) (driveSecond_pins (hop ▸ h))
  | settle hop => exact hstay (by simp) (by omega) (by omega)
  | read hop => exact hstay (by simp) (by omega) (by omega)
  | trigger hop =>
    unfold xtTrigger
    dsimp only
    split
    · exact hstay (by simp) (by omega) (by omega)
    · rw [comes_more, runningPins_position (by simpa using hp)]
      simpa using h.driven (op' := 18) (by omega) (by omega)
  | wait hop => exact hstay (by simp) (by omega) (by omega)
  | decide hop => exact hstay (by split <;> simp) (by omega) (by omega)
  | sampleRead hop => exact hstay (by simp) (by omega) (by omega)
  | sample hop =>
    rw [comes_more, runningPins_position (by simpa [xtSample] using hp)]
    simpa [xtSample] using h.driven (op' := 18) (by omega) (by omega)
  | releaseFirst hop => exact runningPins_gotoOp hp (by simp) (releaseFirst_pins (hop ▸ h))
  | releaseSecond hop => exact runningPins_gotoOp hp (by simp) (releaseSecond_pins (hop ▸ h))
  | next hop =>
    have hrest := (showsDriver_rest hd (.inr hop)).mp h
    unfold xtNext enterPosition
    split
    · rw [comes_more, runningPins_position (by simp), showsDriver_rest (driverOf_legal _) (.inl (by simp))]
      simpa using hrest
    · simpa using hrest

theorem crosstalkBody_pins (top : Bool) (h : runningPins .crosstalk s.seq m s.pins) :
    (crosstalkBody top s).Comes (fun t => runningPins .crosstalk t.seq m t.pins) (fun t => PinsRest m t.pins)
      (fun _ => False) := by
  unfold crosstalkBody
  split
  case h_2 hp => exact xtPosition_pins top (by omega) h
  case h_1 hp =>
    rw [runningPins_xtStart hp] at h
    unfold xtPrologue enterPosition
    split_ifs
    · rw [comes_more, runningPins_xtStart (by simpa using hp)]
      simpa using h
    · rw [comes_more, runningPins_xtStart (by simpa using hp)]
      simpa using h
    · rw [comes_more, runningPins_position (by simp), showsDriver_rest (driverOf_legal _) (.inl (by simp))]
      simpa using h

end

/-! ### Every command -/

/-- At its start a command finds, and leaves, the pins at rest. -/
theorem runningPins_start {i : Instr} {q : Seq} {m : Mode} {p : Pins} (hphase : q.phase = 0) (hop : q.op = 0)
    (hact : i = .activate → m = .released) (hdeact : i = .deactivate → m = .owned) :
    runningPins i q m p ↔ PinsRest m p := by
  have hctrl : ctrlLine q = quietLine := by
    rw [ctrlLine_steady (l := ⟨.input, false⟩) (by simp [ctrlGLine, hphase]) (by omega), steadyLine_quiet]
  by_cases h : movesPins i = false
  · exact runningPins_iff_rest h
  cases i with
  | activate => rw [runningPins_activate, hact rfl, hop]; rfl
  | deactivate => rw [runningPins_deactivate, hdeact rfl, hop]; rfl
  | verifyData =>
    rw [show Instr.verifyData = Bus.data.command from rfl, runningPins_bus, ← showsBus_idle (b := .data), hphase]
    rfl
  | verifyAddr =>
    rw [show Instr.verifyAddr = Bus.address.command from rfl, runningPins_bus, ← showsBus_idle (b := .address), hphase]
    rfl
  | verifyCtrl =>
    rw [runningPins_ctrl, hctrl]
    simp [ctrlPosk, hphase, PinsRest, restLine]
  | crosstalk => exact runningPins_xtStart hphase
  | fullpass =>
    rw [runningPins_iff, runLine_eq_quietLine (by simp) (by simp)]
    simp [PinsRest, runDataPins, runAddrPins, runningTestLine, restLine]
  | _ => exact absurd rfl h

/-- The pins over one step of a body other than `FULLPASS`'s. -/
theorem primitive_pins {i : Instr} (hi : i ≠ .fullpass) (top : Bool) {s : State}
    (h : runningPins i s.seq s.mode s.pins) :
    (bodyIn top i s).Comes (fun t => runningPins i t.seq s.mode t.pins)
      (fun t => PinsRest (modeAfter i s.mode) t.pins)
      (fun t => Shows t.pins idleBus idleBus (restLine (testLine .halted t.fatal))) := by
  by_cases hstill : movesPins i = false
  · have hpins := bodyIn_pins hstill top s
    have hmode : changesMode i = false ∧ modeAfter i s.mode = s.mode := by
      cases i <;> first | exact ⟨rfl, rfl⟩ | cases hstill
    rw [runningPins_iff_rest hstill, ← hpins] at h
    refine comes_of_state (bodyIn_not_fatal hmode.1 top s) ?_ (by rwa [hmode.2])
    rwa [runningPins_iff_rest hstill]
  have hnever {r : BodyStep} {go out halt : State → Prop} (hr : r.Comes go out fun _ => False) :
      r.Comes go out halt := hr.mono (fun _ h => h) (fun _ h => h) fun _ h => h.elim
  cases i with
  | activate => exact activateBody_pins h
  | deactivate => exact deactivateBody_pins h
  | verifyData => exact hnever (verifyBusBody_pins (b := .data) top h)
  | verifyAddr => exact hnever (verifyBusBody_pins (b := .address) top h)
  | verifyCtrl => exact hnever (verifyCtrlBody_pins top h)
  | crosstalk => exact hnever (crosstalkBody_pins top h)
  | fullpass => exact absurd rfl hi
  | _ => exact absurd rfl hstill

theorem stageCommand_ne_activate {st : Nat} (h : st ≠ 1) : stageCommand st ≠ .activate := by
  unfold stageCommand
  split <;> simp_all

/-- The pins over one step of `FULLPASS`. -/
theorem fullpassBody_pins {s : State} (hmode : runMode .fullpass s.seq.stage s.mode)
    (h : runningPins (stageCommand s.seq.stage) s.seq s.mode s.pins) :
    (fullpassBody s).Comes (fun t => runningPins (stageCommand t.seq.stage) t.seq t.mode t.pins)
      (fun t => PinsRest t.mode t.pins)
      (fun t => Shows t.pins idleBus idleBus (restLine (testLine .halted t.fatal))) := by
  have hbody := primitive_pins (stageCommand_ne_fullpass s.seq.stage) false h
  have hcomes := primitive_comes (stageCommand_ne_fullpass s.seq.stage) false s
  have hstage {st : Nat} (hst : 2 ≤ st) {m : Mode} {p : Pins} (hm : m = .owned) (hrest : PinsRest .owned p) :
      runningPins (stageCommand st) { Seq.start with stage := st } m p := by
    have hne : stageCommand st ≠ .activate := stageCommand_ne_activate (by omega)
    exact (runningPins_start rfl rfl (fun h => absurd h hne) fun _ => hm).mpr (hm ▸ hrest)
  have hended {t : State} (ht : t.fixed = s.fixed.setMode (modeAfter (stageCommand s.seq.stage) s.mode)) :
      t.mode = modeAfter (stageCommand s.seq.stage) s.mode :=
    eq_of_fixed (s := s.setMode _) ht State.mode
  generalize hr : fullpassBody s = r
  have hstep : FullpassStep s r := hr ▸ fullpassBody_step s
  cases hstep with
  | prologue hst =>
    rw [hst] at h
    have hrest : PinsRest s.mode s.pins := (runningPins_iff_rest rfl).mp h
    exact (runningPins_start rfl rfl (fun _ => hmode.2.1 (by omega)) fun h => by cases h).mpr hrest
  | cancelStart hst hq =>
    have hm : s.mode = .owned := hmode.2.2 hst.1
    refine hstage (st := 7) (by decide) hm ?_
    have hne : stageCommand s.seq.stage ≠ .activate := stageCommand_ne_activate (by omega)
    exact hm ▸ (runningPins_start hq.1 hq.2.1 (fun h => absurd h hne) fun _ => hm).mp h
  | within _ t ht =>
    rw [ht] at hbody hcomes
    rw [comes_more, hcomes.2.1, eq_of_fixed hcomes.1 State.mode]
    exact hbody
  | nextStage hst hlast t ht =>
    rw [ht] at hbody hcomes
    have hm := modeAfter_stage hmode hst hlast
    rw [comes_ended, hm] at hbody
    refine hstage (st := s.seq.stage + 1) (by omega) ?_ (by simpa using hbody)
    rw [← hm, ← hended hcomes]
    rfl
  | cancelIn hst hlast t ht =>
    rw [ht] at hbody hcomes
    have hm := modeAfter_stage hmode hst hlast
    rw [comes_cancelled, hm] at hbody
    exact hstage (st := 7) (by decide) ((hended hcomes).trans hm) hbody
  | ended _ t ht =>
    rw [ht] at hbody hcomes
    rw [comes_ended, hended hcomes]
    exact hbody
  | cancelled _ t ht =>
    rw [ht] at hbody hcomes
    rw [comes_cancelled, hended hcomes]
    exact hbody
  | fatal _ t ht => rwa [ht] at hbody

/-! ### The invariant -/

theorem pinsInv_of_core {s t : State} (h : t.core = s.core) (hs : PinsInv s) : PinsInv t :=
  (eq_of_core h PinsInv).mpr hs

/-- An idle engine whose pins are at rest. -/
theorem pinsInv_idle {t : State} (hown : OwnershipInv t) (hb : t.busy = false) (hm : t.mode ≠ .halted)
    (hrest : PinsRest t.mode t.pins) : PinsInv t :=
  ⟨hown, fun _ => quiescent_iff.mpr hrest, fun h => absurd h hm, fun i h => by rw [h.1.1] at hb; cases hb⟩

/-- A running engine whose pins are where the running command puts them. -/
theorem pinsInv_running {t : State} (hown : OwnershipInv t) {i : Instr} (hruns : t.Runs i)
    (h : runningPins (current i t.seq) t.seq t.mode t.pins) : PinsInv t := by
  refine ⟨hown, fun hb => ?_, fun hm => absurd hm hruns.1.2, fun j hj => ?_⟩
  · rw [hruns.1.1] at hb; cases hb
  · cases hruns.2.symm.trans hj.2
    exact h

theorem pinsInv_halted {t : State} (hown : OwnershipInv t) (hm : t.mode = .halted)
    (h : Shows t.pins idleBus idleBus (restLine (testLine .halted t.fatal))) : PinsInv t := by
  refine ⟨hown, fun hb => ?_, fun _ => quiescent_iff.mpr h, fun i hi => absurd hm hi.1.2⟩
  rw [hown.2.1 hm] at hb; cases hb

theorem current_of_ne {i : Instr} (hi : i ≠ .fullpass) (q : Seq) : current i q = i := by
  cases i <;> first | rfl | exact absurd rfl hi

/-- Every step of a running command keeps the pins where its position puts them. -/
theorem pinsInv_ran {s : State} {i : Instr} (hs : PinsInv s) (hruns : s.Runs i) :
    PinsInv (finish (bodyOf i s)) := by
  have hown := ownershipInv_ran hs.1 hruns
  have h := hs.2.2.2 i hruns
  have hmode := hs.1.runMode hruns
  have hpins : (bodyOf i s).Comes
      (fun t => (∃ m, t.fixed = s.fixed.setMode m ∧ m ≠ .halted) ∧
        runningPins (current i t.seq) t.seq t.mode t.pins)
      (fun t => PinsRest t.mode t.pins)
      (fun t => t.mode = .halted ∧ Shows t.pins idleBus idleBus (restLine (testLine .halted t.fatal))) := by
    have hhalted {t : State} (ht : ∃ c, c ≠ .none ∧ t.fixed = raiseFatal c s.fixed) : t.mode = .halted := by
      obtain ⟨c, -, ht⟩ := ht
      exact eq_of_fixed (s := raiseFatal c s) ht State.mode
    by_cases hi : i = .fullpass
    · subst hi
      refine ((fullpassBody_comes hmode hruns.1.2).and (fullpassBody_pins hmode h)).mono ?_ (fun _ h => h.2)
        fun t ht => ⟨hhalted ht.1, ht.2⟩
      rintro t ⟨⟨m, ht, hm⟩, hpins⟩
      exact ⟨⟨m, ht, runMode_ne_halted hm⟩, hpins⟩
    · rw [current_of_ne hi] at h
      rw [bodyOf_eq_bodyIn]
      refine ((primitive_comes hi true s).and (primitive_pins hi true h)).mono ?_ ?_
        fun t ht => ⟨hhalted ht.1, ht.2⟩
      · rintro t ⟨hframed, hpins⟩
        refine ⟨⟨s.mode, hframed.1, hruns.1.2⟩, ?_⟩
        rw [current_of_ne hi, eq_of_fixed hframed.1 State.mode]
        exact hpins
      · rintro t ⟨ht, hpins⟩
        rw [show t.mode = modeAfter i s.mode from eq_of_fixed (s := s.setMode _) ht State.mode]
        exact hpins
  generalize bodyOf i s = r at hown hpins
  have hidle {t : State} (hown : OwnershipInv t) (hb : t.busy = false) : t.mode ≠ .halted := fun hm => by
    rw [hown.2.1 hm] at hb; cases hb
  cases r with
  | more t =>
    obtain ⟨⟨m, ht, hm⟩, hpins⟩ := hpins
    have hmode : t.mode = m := eq_of_fixed (s := s.setMode m) ht State.mode
    have hbusy : t.busy = s.busy := eq_of_fixed (s := s.setMode m) ht State.busy
    have hlast : t.lastcmd = s.lastcmd := eq_of_fixed (s := s.setMode m) ht State.lastcmd
    exact pinsInv_running hown ⟨⟨hbusy.trans hruns.1.1, hmode ▸ hm⟩, (congrArg decode hlast).trans hruns.2⟩ hpins
  | ended t | cancelled t => exact pinsInv_idle hown rfl (hidle hown rfl) hpins
  | fatal t => exact pinsInv_halted hown hpins.1 hpins.2

theorem pinsInv_accepted {s : State} {i : Instr} (hs : PinsInv s) (hidle : s.Idle)
    (hmode : modeAllows i s.mode = true) (hword : decode (encode i) = .ok i) : PinsInv (accept (encode i) s) := by
  have hrest : PinsRest s.mode s.pins := quiescent_iff.mp (hs.2.1 hidle.1)
  refine pinsInv_running (ownershipInv_accepted hs.1 hidle hmode hword) ⟨⟨rfl, hidle.2⟩, hword⟩
    ((runningPins_start rfl rfl (fun h => ?_) fun h => ?_).mpr hrest)
  · obtain rfl : i = .activate := by cases i <;> first | rfl | cases h
    simpa [modeAllows] using hmode
  · obtain rfl : i = .deactivate := by cases i <;> first | rfl | cases h
    simpa [modeAllows] using hmode

theorem pinsInv_reset (s : State) : PinsInv (resetEngine s) := by
  refine pinsInv_idle (ownershipInv_reset s) rfl (by simp [resetEngine, State.reset]) ⟨⟨rfl, rfl, rfl, rfl⟩, ?_⟩
  intro g
  cases g <;> exact ⟨rfl, rfl⟩

/-- Settles O50. -/
theorem pinsKept : Obligations.PinsKept := by
  unfold Obligations.PinsKept
  intro s t hs h
  exact kept_by_step pinsInv_of_core (fun s _ => pinsInv_reset s) (fun _ _ => pinsInv_accepted)
    (fun _ _ => pinsInv_ran) hs h

end Sys2Proof.Machine
end

section
/-! The result registers by command (R43 to R49): O42, and the lemmas O51 to O53 need. -/

namespace Sys2Proof.Machine
open Sys2Proof

/-! ### What each body writes of the results -/

/-- The results without those of the memory algorithms and the suite. -/
def Results.buses (r : Results) : Results :=
  { r with tr := .zero, agg := .zero, aggFaultyMask := 0#8, slogCount := 0#5, slog := Results.emptyLog }

section
variable (s : State) (top : Bool)

@[simp] theorem accumulate_buses : (accumulate s).res.buses = s.res.buses := rfl
@[simp] theorem clearTr_buses : (clearTr s).res.buses = s.res.buses := rfl
@[simp] theorem callRecorded_buses : (callRecorded s).res.buses = s.res.buses := rfl
@[simp] theorem writeFaultyMask_buses : (writeFaultyMask s).res.buses = s.res.buses := rfl
@[simp] theorem suitePrologue_buses : (suitePrologue s).res.buses = s.res.buses := rfl

/-- R231: a memory algorithm writes no result but `TR`. -/
def WritesTr (s t : State) : Prop := t.res = { s.res with tr := t.res.tr }

theorem WritesTr.of_res {s t u : State} (h : t.res = u.res) (hu : WritesTr s u) : WritesTr s t := by
  unfold WritesTr
  rw [h]
  exact hu

theorem cellRead_writesTr (v : CellVal) : WritesTr s (cellRead v s) := by
  simp [WritesTr, cellRead, accumulate_eq]

theorem rstopTurn_writesTr (d : PassDir) (ops : List CellOp) (v : CellVal) (n : Nat) :
    WritesTr s (rstopTurn d ops v n s) := by
  obtain ⟨-, h⟩ | ⟨-, -, h⟩ | ⟨-, -, h⟩ := rstopTurn_cases d ops v n s <;> rw [h] <;>
    simp [WritesTr, accumulate_eq]

theorem passStep_writesTr (d : PassDir) (ops : List CellOp) : WritesTr s (passStep d ops s) := by
  unfold passStep cellOp
  split
  · split
    case h_2 v _ => exact (cellRead_writesTr s v).of_res (by simp)
    case h_4 => exact rstopTurn_writesTr ..
    all_goals simp [WritesTr]
  · simp [WritesTr]

theorem memBody_writesTr (pat : Option Byte) (phases : List MemPhase) :
    WritesTr s (memBody top pat phases s).state := by
  obtain ⟨-, h⟩ | ⟨j, -, -, h⟩ | ⟨j, d, ops, -, -, -, h⟩ | ⟨j, ms, n, -, -, -, h⟩ | ⟨j, p, -, -, h⟩ :=
    memBody_cases top pat phases s <;> rw [h]
  · simp [WritesTr, clearTr]
  · simp [WritesTr]
  · exact passStep_writesTr ..
  · simp [WritesTr]
  · unfold endPhase
    split <;> simp [WritesTr]

/-- R326: the suite writes no result of a bus test. -/
theorem suiteBody_buses : (suiteBody top s).state.res.buses = s.res.buses := by
  have hcall : (memAlgorithmBody (suiteCall s.cfg s.seq.call) s).state.res.buses = s.res.buses := by
    obtain h | ⟨pat, phases, h⟩ := memAlgorithmBody_eq (suiteCall s.cfg s.seq.call) s <;> rw [h]
    · rfl
    · rw [memBody_writesTr s false pat phases]
      rfl
  generalize hr : suiteBody top s = r
  have hstep : SuiteStep top s r := hr ▸ suiteBody_step top s
  cases hstep with
  | prologue | cancel => rfl
  | call _ t h => simpa [h] using hcall
  | nextCall t h | last t h => simpa [h] using hcall

theorem activateBody_res : (activateBody s).state.res = s.res := by
  unfold activateBody
  split
  case h_3 => split <;> simp
  case h_5 => split_ifs <;> simp
  all_goals simp

theorem deactivateBody_res : (deactivateBody s).state.res = s.res := by
  unfold deactivateBody
  split
  case h_2 => split_ifs <;> simp
  all_goals simp

/-- R183: `SAMPLE` writes `SNAP` at its end. -/
theorem sampleBody_res :
    (sampleBody s).state.res = s.res ∨ (sampleBody s).state.res = { s.res with snap := s.work.cur } := by
  unfold sampleBody
  split <;> simp

/-- R44: the record of a bus is written with its flag, or not at all. -/
theorem verifyBusBody_res (b : Bus) : (verifyBusBody b top s).state.res = s.res ∨
    ∃ high low, (verifyBusBody b top s).state.res = (writeBusRecord b high low s).res := by
  unfold verifyBusBody
  split
  · exact .inr ⟨0#16, 0#16, rfl⟩
  · left
    unfold verifyDriveLow
    split <;> simp
  · left
    unfold verifyConfirm verifyDecide verifyNextLine
    split
    · split_ifs <;> simp
    · simp
  · left
    unfold verifyDriveHigh
    split <;> simp
  · unfold verifyCleanup
    split
    · exact .inl (by simp)
    · exact .inl (by simp)
    · exact .inr ⟨_, _, rfl⟩

theorem ctrlDriveLow_res : (ctrlDriveLow top s).res = s.res := by
  unfold ctrlDriveLow
  split
  case h_4 => dsimp only; split <;> simp
  all_goals simp

theorem ctrlConfirm_res : (ctrlConfirm top s).res = s.res := by
  unfold ctrlConfirm ctrlDecide ctrlNextLine
  split
  · split_ifs <;> simp
  · simp

theorem ctrlDriveHigh_res : (ctrlDriveHigh top s).res = s.res := by
  unfold ctrlDriveHigh
  split
  case h_3 | h_7 | h_8 => dsimp only; split <;> simp
  all_goals simp

/-- R44: the control record is written with its flag, or not at all. -/
theorem verifyCtrlBody_res : (verifyCtrlBody top s).state.res = s.res ∨
    ∃ high low, (verifyCtrlBody top s).state.res = (writeCtrlRecord high low s).res := by
  unfold verifyCtrlBody
  split
  · exact .inr ⟨0#12, 0#12, rfl⟩
  · exact .inl (ctrlDriveLow_res s top)
  · exact .inl (ctrlConfirm_res s top)
  · exact .inl (ctrlDriveHigh_res s top)
  · unfold ctrlCleanup
    split
    · exact .inl (by simp)
    · exact .inr ⟨_, _, rfl⟩

/-- R186, R190: `CROSSTALK` writes its masks with their flag, or the baseline, or nothing. -/
theorem crosstalkBody_res : (crosstalkBody top s).state.res = s.res ∨
    (∃ src dst, (crosstalkBody top s).state.res = (writeXt src dst s).res) ∨
    (crosstalkBody top s).state.res = { s.res with xtBaseline := s.work.cur } := by
  unfold crosstalkBody
  split
  case h_1 =>
    unfold xtPrologue enterPosition
    split_ifs
    · exact .inr (.inl ⟨0#64, 0#64, rfl⟩)
    · exact .inl (by simp)
    · exact .inr (.inr rfl)
  case h_2 =>
    generalize hr : xtPosition top s = r
    have hstep : XtStep s top r := hr ▸ xtPosition_step s top
    cases hstep with
    | cancel => exact .inr (.inl ⟨_, _, rfl⟩)
    | trigger =>
      left
      unfold xtTrigger
      dsimp only
      split <;> simp
    | decide =>
      left
      unfold xtDecide
      split <;> simp
    | sample => exact .inl (by simp [xtSample])
    | next =>
      unfold xtNext enterPosition
      split
      · exact .inl (by simp)
      · exact .inr (.inl ⟨s.work.src, s.work.dst, by simp [writeXt]⟩)
    | _ => exact .inl (by simp)

end

/-! ### O42 -/

/-- R44: setting one bit of `ISSUES` leaves the others. -/
theorem setBitTo_getLsbD {w : Nat} (v : BitVec w) {k : Nat} (j : Nat) (b : Bool) (hk : k < w) :
    (setBitTo v k b).getLsbD j = if j = k then b else v.getLsbD j := by
  have hbit : (1#w <<< k).getLsbD j = decide (k = j) := by
    rw [← BitVec.twoPow_eq, BitVec.getLsbD_twoPow]
    simp [hk]
  have hout : ¬ j < w → v.getLsbD j = false := fun h => BitVec.getLsbD_of_ge _ _ (by omega)
  unfold setBitTo
  cases b <;> simp only [Bool.false_eq_true, if_true, if_false, BitVec.getLsbD_and, BitVec.getLsbD_or,
    BitVec.getLsbD_not, hbit] <;> grind

/-- A step of `exec` leaves the results, or is a step of the body. -/
theorem exec_res {i : Instr} {s t : State} (h : exec i s = .next t) :
    t.res = s.res ∨ t.res = (bodyIn true i s).state.res := by
  obtain ⟨-, ⟨-, rfl⟩ | ⟨-, rfl⟩⟩ := exec_next h
  · exact .inl (present_frame i s).2.2.1
  · rw [← bodyOf_eq_bodyIn]
    exact .inr (finish_frame _).2.2.2.1

theorem memTable_of_phases {i : Instr} (h : Spec.phases i ≠ []) : ∃ row, memTable i = some row := by
  cases i <;> first | exact ⟨_, rfl⟩ | exact absurd rfl h

/-- Settles O42. -/
theorem resultFrame : Obligations.ResultFrame := by
  unfold Obligations.ResultFrame
  intro i s t h
  have hres := exec_res h
  refine ⟨?_, ?_, ?_, ?_, ?_, ?_, ?_, ?_⟩
  · rintro (rfl | rfl | rfl)
    · exact hres.elim id id
    · exact hres.elim id fun h => h.trans (activateBody_res s)
    · exact hres.elim id fun h => h.trans (deactivateBody_res s)
  · rintro rfl
    obtain h | h := hres
    · rw [h]
    · obtain h' | h' := sampleBody_res s <;> rw [h] <;> simp [bodyIn, h']
  · rintro rfl
    obtain h | h := hres
    · simp [h]
    · obtain h' | ⟨high, low, h'⟩ := verifyBusBody_res s true .data <;> rw [h] <;>
        simp +contextual [bodyIn, h', writeBusRecord, setBitTo_getLsbD, issueData]
  · rintro rfl
    obtain h | h := hres
    · simp [h]
    · obtain h' | ⟨high, low, h'⟩ := verifyBusBody_res s true .address <;> rw [h] <;>
        simp +contextual [bodyIn, h', writeBusRecord, setBitTo_getLsbD, issueAddr]
  · rintro rfl
    obtain h | h := hres
    · simp [h]
    · obtain h' | ⟨high, low, h'⟩ := verifyCtrlBody_res s true <;> rw [h] <;>
        simp +contextual [bodyIn, h', writeCtrlRecord, setBitTo_getLsbD, issueCtrl]
  · rintro rfl
    obtain h | h := hres
    · simp [h]
    · obtain h' | ⟨src, dst, h'⟩ | h' := crosstalkBody_res s true <;> rw [h] <;>
        simp +contextual [bodyIn, h', writeXt, setBitTo_getLsbD, issueXt]
  · intro hphases
    obtain ⟨row, hrow⟩ := memTable_of_phases hphases
    rw [bodyIn_of_memTable hrow] at hres
    obtain h | h := hres
    · rw [h]
    · rw [h]; exact memBody_writesTr s true row.1 row.2
  · rintro rfl
    have hbuses : t.res.buses = s.res.buses := by
      obtain h | h := hres <;> rw [h]
      exact suiteBody_buses s true
    exact congrArg (fun r : Results => { r with
      tr := t.res.tr, agg := t.res.agg, aggFaultyMask := t.res.aggFaultyMask
      slogCount := t.res.slogCount, slog := t.res.slog }) hbuses

end Sys2Proof.Machine
end

section
/-! Invariants of the results and the working registers (O51 to O53): the frame they are proved in, once. -/

namespace Sys2Proof.Machine
open Sys2Proof

/-! ### An invariant of the registers, with a part that holds while one command runs -/

/-- `base` always, and `inside` while command `c` runs past its prologue. -/
def StageInv (c : Instr) (base inside : State → Prop) (s : State) : Prop :=
  base s ∧ (s.currentCommand = c → s.seq.phase ≠ 0 → inside s)

/-- The same within a body of command `i`. -/
def BodyInv (c : Instr) (base inside : State → Prop) (i : Instr) (s : State) : Prop :=
  base s ∧ (i = c → s.seq.phase ≠ 0 → inside s)

/-- The working registers without the note of `FULLPASS` that its pass is abandoned. -/
def Work.registers (w : Work) : Work := { w with cancelling := false }

theorem primitive_stage {i : Instr} (hi : i ≠ .fullpass) (top : Bool) (s : State) :
    (bodyIn top i s).state.seq.stage = s.seq.stage := by
  by_cases h : changesMode i = false
  · exact (bodyIn_framed h top s).2.1
  cases i with
  | activate => exact (activateBody_comes s).state (fun _ h => h.2.1) (fun _ h => h.2.1) fun _ ⟨_, _, _, h, _⟩ => h
  | deactivate =>
    exact (deactivateBody_comes s).state (fun _ h => h.2.1) (fun _ h => h.2.1) fun _ ⟨_, _, _, h, _⟩ => h
  | fullpass => exact absurd rfl hi
  | _ => exact absurd rfl h

/-- No step of a body changes which command runs. -/
theorem bodyIn_lastcmd (top : Bool) (i : Instr) (s : State) :
    (bodyIn top i s).state.lastcmd = s.lastcmd := by
  obtain ⟨⟨m, c, h⟩, -⟩ := bodyIn_envFramed top i s
  exact eq_of_fixed (s := { s with mode := m, fatal := c }) h State.lastcmd

theorem currentCommand_of_decode {s : State} {i : Instr} (hi : decode s.lastcmd = .ok i) :
    s.currentCommand = if s.busy then current i s.seq else .nop := by
  unfold State.currentCommand
  rw [hi]
  cases s.busy <;> rfl

theorem currentCommand_idle {s : State} (hb : s.busy = false) : s.currentCommand = .nop := by
  unfold State.currentCommand
  rw [hb]

section
variable {c : Instr} {base inside : State → Prop}

theorem StageInv.of_idle {t : State} (hc : c ≠ .nop) (hb : t.busy = false) (h : base t) : StageInv c base inside t :=
  ⟨h, fun hcur => absurd (hcur.symm.trans (currentCommand_idle hb)) hc⟩

theorem StageInv.of_start {t : State} (hp : t.seq.phase = 0) (h : base t) : StageInv c base inside t :=
  ⟨h, fun _ hne => absurd hp hne⟩

/-- What the command that runs does to such an invariant, from what the bodies do to it. -/
theorem stageInv_ran (hc : c ≠ .nop)
    (hregs : ∀ {s t : State}, t.res = s.res → t.work.registers = s.work.registers → base s → base t)
    (hclear : ∀ {s t : State}, t.res = .zero → t.work.registers = s.work.registers → base s → base t)
    (hbody : ∀ i top s, i ≠ .fullpass → BodyInv c base inside i s →
      (bodyIn top i s).Comes (BodyInv c base inside i) base (BodyInv c base inside i))
    {s : State} {i : Instr} (hs : StageInv c base inside s) (hruns : s.Runs i) :
    StageInv c base inside (finish (bodyOf i s)) := by
  have hs' : BodyInv c base inside (current i s.seq) s := by
    refine ⟨hs.1, fun hcur => hs.2 ?_⟩
    rw [currentCommand_of_decode hruns.2, hruns.1.1, if_pos rfl, hcur]
  have hrunning : (bodyOf i s).Comes (fun t => BodyInv c base inside (current i t.seq) t) base
      (fun t => BodyInv c base inside (current i t.seq) t) := by
    by_cases hi : i = .fullpass
    case neg =>
      rw [current_of_ne hi] at hs'
      rw [bodyOf_eq_bodyIn]
      exact (hbody i true s hi hs').mono (fun t h => (current_of_ne hi t.seq).symm ▸ h) (fun _ h => h)
        fun t h => (current_of_ne hi t.seq).symm ▸ h
    case pos =>
      subst hi
      have hcomes := hbody _ false s (stageCommand_ne_fullpass s.seq.stage) hs'
      have hstage := primitive_stage (stageCommand_ne_fullpass s.seq.stage) false s
      have hsame {t : State} (ht : t.seq.stage = s.seq.stage) :
          BodyInv c base inside (stageCommand s.seq.stage) t → BodyInv c base inside (current .fullpass t.seq) t := by
        change _ → BodyInv c base inside (stageCommand t.seq.stage) t
        rw [ht]
        exact id
      have hstart {t : State} (ht : t.seq.phase = 0) (hbase : base t) :
          BodyInv c base inside (current .fullpass t.seq) t := ⟨hbase, fun _ hne => absurd ht hne⟩
      generalize hr : bodyOf .fullpass s = r
      have hstep : FullpassStep s r := hr ▸ fullpassBody_step s
      cases hstep with
      | prologue hst => exact hstart rfl (hclear (s := s) rfl rfl hs.1)
      | cancelStart => exact hstart rfl (hregs (s := s) rfl rfl hs.1)
      | within _ t h =>
        rw [h] at hcomes hstage
        exact hsame hstage hcomes
      | nextStage _ _ t h =>
        rw [h] at hcomes
        exact hstart rfl (hregs (s := t) (by simp) (by simp) hcomes)
      | cancelIn _ _ t h =>
        rw [h] at hcomes
        exact hstart rfl (hregs (s := t) rfl rfl hcomes)
      | ended _ t h | cancelled _ t h => rwa [h] at hcomes
      | fatal _ t h =>
        rw [h] at hcomes hstage
        exact hsame hstage hcomes
  have hlast : decode (bodyOf i s).state.lastcmd = .ok i := by
    rw [bodyOf_eq_bodyIn, bodyIn_lastcmd]
    exact hruns.2
  generalize bodyOf i s = r at hrunning hlast
  have hkept {t : State} (hlast : decode t.lastcmd = .ok i) (h : BodyInv c base inside (current i t.seq) t) :
      StageInv c base inside t := by
    refine ⟨h.1, fun hcur => h.2 ?_⟩
    rw [currentCommand_of_decode hlast] at hcur
    split at hcur
    · exact hcur
    · exact absurd hcur.symm hc
  cases r with
  | more t | fatal t => exact hkept hlast hrunning
  | ended t => exact .of_idle hc rfl (hregs (s := t) rfl rfl hrunning)
  | cancelled t => exact .of_idle hc rfl (hregs (s := t) rfl rfl hrunning)

/-- Such an invariant is kept by every step of the machine when every body but `FULLPASS`'s keeps it. -/
theorem stageInv_kept (hc : c ≠ .nop) (hcore : ∀ {s t : State}, t.core = s.core → inside s → inside t)
    (hregs : ∀ {s t : State}, t.res = s.res → t.work.registers = s.work.registers → base s → base t)
    (hclear : ∀ {s t : State}, t.res = .zero → t.work.registers = s.work.registers → base s → base t)
    (hreset : base State.reset)
    (hbody : ∀ i top s, i ≠ .fullpass → BodyInv c base inside i s →
      (bodyIn top i s).Comes (BodyInv c base inside i) base (BodyInv c base inside i))
    {s t : State} (hs : StageInv c base inside s) (h : step s = .next t) : StageInv c base inside t := by
  refine kept_by_step (fun {s t} h hs => ?_) (fun s _ => ?_) (fun s i hs _ _ _ => ?_)
    (fun s i hs hruns => stageInv_ran hc hregs hclear hbody hs hruns) hs h
  · refine ⟨hregs (eq_of_core h State.res) (eq_of_core h fun s => s.work.registers) hs.1, ?_⟩
    rw [eq_of_core h State.currentCommand, eq_of_core h State.seq]
    exact fun hcur hp => hcore h (hs.2 hcur hp)
  · exact .of_start rfl (hregs (s := State.reset) rfl rfl hreset)
  · exact .of_start rfl (hregs (s := s) rfl rfl hs.1)

end

/-! ### O51: the flags -/

/-- R44: each bit of `ISSUES` summarises its record. -/
def Results.FlagsSummarise (r : Results) : Prop :=
  r.issues.getLsbD 0 = r.frd.hasIssues ∧ r.issues.getLsbD 1 = r.fra.hasIssues ∧
  r.issues.getLsbD 2 = r.frc.hasIssues ∧ r.issues.getLsbD 3 = decide (r.xtSource ≠ 0#64)

theorem issuesInv_iff (s : State) : IssuesInv s ↔ s.res.FlagsSummarise := .rfl

theorem flagsSummarise_buses (r : Results) : r.buses.FlagsSummarise ↔ r.FlagsSummarise := .rfl

theorem flagsSummarise_zero : Results.zero.FlagsSummarise := ⟨rfl, rfl, rfl, rfl⟩

theorem writeBusRecord_flags (b : Bus) (high low : BitVec 16) {s : State} (h : s.res.FlagsSummarise) :
    (writeBusRecord b high low s).res.FlagsSummarise := by
  obtain ⟨h0, h1, h2, h3⟩ := h
  cases b with
  | data =>
    have hbit (j : Nat) := setBitTo_getLsbD s.res.issues (k := issueData) j
      (FaultRecord.hasIssues ⟨high.setWidth 8, low.setWidth 8⟩) (by decide)
    exact ⟨hbit 0, (hbit 1).trans h1, (hbit 2).trans h2, (hbit 3).trans h3⟩
  | address =>
    have hbit (j : Nat) := setBitTo_getLsbD s.res.issues (k := issueAddr) j
      (FaultRecord.hasIssues ⟨high, low⟩) (by decide)
    exact ⟨(hbit 0).trans h0, hbit 1, (hbit 2).trans h2, (hbit 3).trans h3⟩

theorem writeCtrlRecord_flags (high low : BitVec 12) {s : State} (h : s.res.FlagsSummarise) :
    (writeCtrlRecord high low s).res.FlagsSummarise := by
  obtain ⟨h0, h1, -, h3⟩ := h
  have hbit (j : Nat) := setBitTo_getLsbD s.res.issues (k := issueCtrl) j
    (FaultRecord.hasIssues ⟨high, low⟩) (by decide)
  exact ⟨(hbit 0).trans h0, (hbit 1).trans h1, hbit 2, (hbit 3).trans h3⟩

theorem writeXt_flags (src dst : Word64) {s : State} (h : s.res.FlagsSummarise) :
    (writeXt src dst s).res.FlagsSummarise := by
  obtain ⟨h0, h1, h2, -⟩ := h
  have hbit (j : Nat) := setBitTo_getLsbD s.res.issues (k := issueXt) j (crosstalkIssues src) (by decide)
  have hissue : crosstalkIssues src = decide (src ≠ 0#64) := by simp [crosstalkIssues, bne, Bool.beq_eq_decide_eq]
  exact ⟨(hbit 0).trans h0, (hbit 1).trans h1, (hbit 2).trans h2, (hbit 3).trans hissue⟩

theorem verifyBusBody_flags (b : Bus) (top : Bool) {s : State} (h : s.res.FlagsSummarise) :
    (verifyBusBody b top s).state.res.FlagsSummarise := by
  obtain h' | ⟨high, low, h'⟩ := verifyBusBody_res s top b <;> rw [h']
  · exact h
  · exact writeBusRecord_flags b high low h

theorem bodyIn_flags {i : Instr} (hi : i ≠ .fullpass) (top : Bool) {s : State} (h : s.res.FlagsSummarise) :
    (bodyIn top i s).state.res.FlagsSummarise := by
  cases hrow : memTable i with
  | some row =>
    rw [bodyIn_of_memTable hrow, memBody_writesTr s top row.1 row.2]
    exact h
  | none =>
    cases i with
    | nop => exact h
    | clear => exact flagsSummarise_zero
    | activate => exact (activateBody_res s).symm ▸ h
    | deactivate => exact (deactivateBody_res s).symm ▸ h
    | verifyData => exact verifyBusBody_flags .data top h
    | verifyAddr => exact verifyBusBody_flags .address top h
    | verifyCtrl =>
      obtain h' | ⟨high, low, h'⟩ := verifyCtrlBody_res s top <;> simp only [bodyIn, h']
      · exact h
      · exact writeCtrlRecord_flags high low h
    | sample =>
      obtain h' | h' := sampleBody_res s <;> simp only [bodyIn, h'] <;> exact h
    | crosstalk =>
      obtain h' | ⟨src, dst, h'⟩ | h' := crosstalkBody_res s top <;> simp only [bodyIn, h']
      · exact h
      · exact writeXt_flags src dst h
      · exact h
    | suite =>
      rw [← flagsSummarise_buses, show bodyIn top .suite = suiteBody top from rfl, suiteBody_buses]
      exact h
    | fullpass => exact absurd rfl hi
    | _ => cases hrow

/-- Settles O51. -/
theorem issuesKept : Obligations.IssuesKept := by
  unfold Obligations.IssuesKept
  intro s t hs h
  have hkept : StageInv .crosstalk IssuesInv (fun _ => True) t := by
    refine stageInv_kept (by decide) (fun _ _ => trivial) (fun {s t} h _ hs => ?_) (fun {s t} h _ _ => ?_) ?_
      (fun i top s hi hs => ?_) ⟨hs, fun _ _ => trivial⟩ h
    · rwa [issuesInv_iff, h]
    · rw [issuesInv_iff, h]; exact flagsSummarise_zero
    · exact flagsSummarise_zero
    · exact (comes_self (P := IssuesInv) (bodyIn_flags hi top hs.1)).mono (fun t h => ⟨h, fun _ _ => trivial⟩)
        (fun t h => h) fun t h => ⟨h, fun _ _ => trivial⟩
  exact hkept.1

end Sys2Proof.Machine
end

section
/-! The control record (O53): which bits the test of the control set can set (R162 to R164). -/

namespace Sys2Proof.Machine
open Sys2Proof

theorem ctrlBitsLegal_zero (w : Nat) : ctrlBitsLegal (0#w) (0#w) := ⟨fun _ _ => by simp, by simp⟩

theorem ctrlBitsLegal_setWidth {high low : BitVec 16} (h : ctrlBitsLegal high low) :
    ctrlBitsLegal (high.setWidth 12) (low.setWidth 12) := by
  refine ⟨fun k hk => ?_, ?_⟩
  · rw [BitVec.getLsbD_setWidth, h.1 k hk, Bool.and_false]
  · rw [BitVec.getLsbD_setWidth, h.2, Bool.and_false]

theorem ctrlBitsLegal_setHigh {high low : BitVec 16} (h : ctrlBitsLegal high low) {k : Nat} (hk : k ≤ 6) (b : Bool) :
    ctrlBitsLegal (setBitTo high k b) low := by
  refine ⟨fun j hj => ?_, h.2⟩
  rw [setBitTo_getLsbD _ _ _ (by omega), if_neg (by omega)]
  exact h.1 j hj

theorem ctrlBitsLegal_setLow {high low : BitVec 16} (h : ctrlBitsLegal high low) {k : Nat} (hk : k < 16) (hne : k ≠ 10)
    (b : Bool) : ctrlBitsLegal high (setBitTo low k b) :=
  ⟨h.1, by rw [setBitTo_getLsbD _ _ _ hk, if_neg hne.symm]; exact h.2⟩

theorem sigG_idx_le (k : Nat) : (sigG k).idx.val ≤ 6 := by
  unfold sigG
  split <;> decide

theorem idx_ne_of_ne_test {g : Sig} (h : g ≠ .test) : g.idx.val ≠ 10 := by
  cases g <;> first | decide | exact absurd rfl h

theorem sigRO_ne_test (k : Nat) : sigRO k ≠ .test := by
  unfold sigRO
  split <;> simp

/-! ### The masks being made -/

/-- The masks of the control set being made, `sh` and `sl`. -/
def MasksLegal (s : State) : Prop := ctrlBitsLegal s.work.sh s.work.sl

section
variable {s : State}

theorem MasksLegal.of_work {t : State} (h : MasksLegal s) (ht : t.work.sh = s.work.sh ∧ t.work.sl = s.work.sl) :
    MasksLegal t := by
  unfold MasksLegal
  rw [ht.1, ht.2]
  exact h

@[simp] theorem ctlRead_masks (g : Sig) (s : State) :
    (ctlRead g s).work.sh = s.work.sh ∧ (ctlRead g s).work.sl = s.work.sl := ⟨rfl, rfl⟩
@[simp] theorem markCand_masks (g : Sig) (s : State) :
    (markCand g s).work.sh = s.work.sh ∧ (markCand g s).work.sl = s.work.sl := ⟨rfl, rfl⟩
@[simp] theorem countSample_masks (hit : Bool) (s : State) :
    (countSample hit s).work.sh = s.work.sh ∧ (countSample hit s).work.sl = s.work.sl := ⟨rfl, rfl⟩
@[simp] theorem enterLine_masks (line width pos : Nat) (s : State) :
    (enterLine line width pos s).work.sh = s.work.sh ∧ (enterLine line width pos s).work.sl = s.work.sl := by
  rw [enterLine_eq]; exact ⟨rfl, rfl⟩

/-- R161: a signal that reads active is marked stuck low; `TEST` never is. -/
theorem MasksLegal.markLow (h : MasksLegal s) {g : Sig} (hg : g ≠ .test) : MasksLegal (markLow g (ctlRead g s)) := by
  change ctrlBitsLegal s.work.sh (if (ctlRead g s).readTrue then setBitTo s.work.sl g.idx.val true else s.work.sl)
  split
  · exact ctrlBitsLegal_setLow h (by omega) (idx_ne_of_ne_test hg) true
  · exact h

theorem MasksLegal.ctrlDriveLow (h : MasksLegal s) (top : Bool) : MasksLegal (ctrlDriveLow top s) := by
  refine h.of_work ?_
  unfold Machine.ctrlDriveLow
  split
  case h_4 => dsimp only; split <;> simp
  all_goals simp

theorem ctrlNextLine_masks (s : State) :
    (ctrlNextLine s).work.sh = s.work.sh ∧ (ctrlNextLine s).work.sl = s.work.sl := enterLine_masks _ _ _ s

theorem MasksLegal.ctrlDecide (h : MasksLegal s) : MasksLegal (ctrlDecide s) := by
  unfold Machine.ctrlDecide
  refine MasksLegal.of_work ?_ (ctrlNextLine_masks _)
  split
  · exact ctrlBitsLegal_setHigh h (sigG_idx_le _) true
  · exact h

theorem MasksLegal.ctrlConfirm (h : MasksLegal s) (top : Bool) : MasksLegal (ctrlConfirm top s) := by
  unfold Machine.ctrlConfirm
  split
  · split_ifs
    · exact h.of_work (by simp)
    · exact h.of_work (ctrlNextLine_masks s)
    · exact h.of_work (by simp)
    · exact h.ctrlDecide
  · exact h.of_work (by simp)

theorem MasksLegal.ctrlDriveHigh (h : MasksLegal s) (top : Bool) : MasksLegal (ctrlDriveHigh top s) := by
  unfold Machine.ctrlDriveHigh
  split
  case h_3 =>
    have hmark := h.markLow (sigG_ne_test s.seq.posk)
    dsimp only
    split <;> exact hmark.of_work (by simp)
  case h_6 => exact (h.markLow (sigW_ne_test s.seq.posk)).of_work (by simp)
  case h_7 => dsimp only; split <;> exact h.of_work (by simp)
  case h_8 =>
    have hmark := h.markLow (sigRO_ne_test s.seq.posk)
    dsimp only
    split <;> exact hmark.of_work (by simp)
  all_goals exact h.of_work (by simp)

end

/-- R43: the control record. -/
def CtrlRecordLegal (s : State) : Prop := ctrlBitsLegal s.res.frc.stuckHigh s.res.frc.stuckLow

theorem CtrlRecordLegal.of_frc {s t : State} (h : CtrlRecordLegal s) (ht : t.res.frc = s.res.frc) :
    CtrlRecordLegal t := by
  unfold CtrlRecordLegal
  rw [ht]
  exact h

theorem verifyCtrlBody_legal (top : Bool) {s : State} (h : CtrlRecordLegal s)
    (hmasks : s.seq.phase ≠ 0 → MasksLegal s) :
    (verifyCtrlBody top s).Comes (fun t => CtrlRecordLegal t ∧ MasksLegal t) CtrlRecordLegal (fun _ => False) := by
  have hframe {t : State} (ht : t.res = s.res) : CtrlRecordLegal t := h.of_frc (by rw [ht])
  unfold verifyCtrlBody
  split
  case h_1 => exact ⟨ctrlBitsLegal_zero 12, ctrlBitsLegal_zero 16⟩
  case h_2 hp => exact ⟨hframe (ctrlDriveLow_res s top), (hmasks (by omega)).ctrlDriveLow top⟩
  case h_3 hp => exact ⟨hframe (ctrlConfirm_res s top), (hmasks (by omega)).ctrlConfirm top⟩
  case h_4 hp => exact ⟨hframe (ctrlDriveHigh_res s top), (hmasks (by omega)).ctrlDriveHigh top⟩
  case h_5 hp _ _ _ =>
    have hlegal := hmasks hp
    unfold ctrlCleanup
    split
    · exact ⟨hframe (by simp), hlegal.of_work (by simp)⟩
    · exact ctrlBitsLegal_setWidth hlegal

/-- The test of the control set alone writes its record; `CLEAR` clears it. -/
theorem bodyIn_frc {i : Instr} (hi : i ≠ .fullpass) (hctrl : i ≠ .verifyCtrl) (top : Bool) (s : State) :
    (bodyIn top i s).state.res.frc = s.res.frc ∨ (bodyIn top i s).state.res = .zero := by
  cases hrow : memTable i with
  | some row => rw [bodyIn_of_memTable hrow, memBody_writesTr s top row.1 row.2]; exact .inl rfl
  | none =>
    cases i with
    | nop => exact .inl rfl
    | clear => exact .inr rfl
    | activate => exact .inl (congrArg Results.frc (activateBody_res s))
    | deactivate => exact .inl (congrArg Results.frc (deactivateBody_res s))
    | verifyData =>
      obtain h | ⟨high, low, h⟩ := verifyBusBody_res s top .data <;> exact .inl (by simp [bodyIn, h, writeBusRecord])
    | verifyAddr =>
      obtain h | ⟨high, low, h⟩ := verifyBusBody_res s top .address <;> exact .inl (by simp [bodyIn, h, writeBusRecord])
    | sample => obtain h | h := sampleBody_res s <;> exact .inl (by simp [bodyIn, h])
    | crosstalk =>
      obtain h | ⟨src, dst, h⟩ | h := crosstalkBody_res s top <;> exact .inl (by simp [bodyIn, h, writeXt])
    | suite => exact .inl (congrArg (fun r : Results => r.frc) (suiteBody_buses s top) :)
    | verifyCtrl => exact absurd rfl hctrl
    | fullpass => exact absurd rfl hi
    | _ => cases hrow

/-- Settles O53. -/
theorem ctrlRecordKept : Obligations.CtrlRecordKept := by
  unfold Obligations.CtrlRecordKept
  intro s t hs h
  refine stageInv_kept (c := .verifyCtrl) (base := CtrlRecordLegal) (inside := MasksLegal) (by decide)
    (fun {s t} h hs => hs.of_work ?_) (fun {s t} h _ hs => hs.of_frc (by rw [h])) (fun {s t} h _ _ => ?_)
    (ctrlBitsLegal_zero 12) (fun i top s hi hs => ?_) hs h
  · rw [eq_of_core h State.work]
    exact ⟨rfl, rfl⟩
  · unfold CtrlRecordLegal
    rw [h]
    exact ctrlBitsLegal_zero 12
  · by_cases hctrl : i = .verifyCtrl
    · subst hctrl
      exact (verifyCtrlBody_legal top hs.1 (hs.2 rfl)).mono (fun t h => ⟨h.1, fun _ _ => h.2⟩) (fun _ h => h)
        fun _ h => h.elim
    · have hbase : CtrlRecordLegal (bodyIn top i s).state := by
        obtain h | h := bodyIn_frc hi hctrl top s
        · exact hs.1.of_frc h
        · unfold CtrlRecordLegal
          rw [h]
          exact ctrlBitsLegal_zero 12
      exact (comes_self (P := CtrlRecordLegal) hbase).mono (fun _ h => ⟨h, fun h => absurd h hctrl⟩) (fun _ h => h)
        fun _ h => ⟨h, fun h => absurd h hctrl⟩

end Sys2Proof.Machine
end

section
/-! The crosstalk masks and snapshots (O52): bits 63:36, drivable sources, both masks 0 together. -/

namespace Sys2Proof.Machine
open Sys2Proof

/-! ### The bits of a mask -/

theorem low36_zero : low36 0#64 := fun k _ => by simp

theorem low36_or {v w : Word64} (hv : low36 v) (hw : low36 w) : low36 (v ||| w) := fun k hk => by
  rw [BitVec.getLsbD_or, hv k hk, hw k hk]; rfl

theorem low36_shift {n : Nat} (v : BitVec n) {i : Nat} (hi : n + i ≤ 36) : low36 (v.setWidth 64 <<< i) := fun k hk => by
  rw [BitVec.getLsbD_shiftLeft, BitVec.getLsbD_setWidth, BitVec.getLsbD_of_ge v (k - i) (by omega)]
  simp

theorem low36_unexpected {cur baseline : Word64} (hc : low36 cur) (hb : low36 baseline) (p : Nat) :
    low36 (unexpected cur baseline p) := fun k hk => by
  rw [unexpected, BitVec.getLsbD_and, BitVec.getLsbD_xor, hc k hk, hb k hk]; rfl

theorem drivableOnly_zero : drivableOnly 0#64 := fun k hk => by simp at hk

theorem lt_of_mem_drivable {p : Nat} (hp : p ∈ drivable) : p < 36 :=
  (show ∀ p ∈ drivable, p < 36 by decide) p hp

theorem posMask_getLsbD (p k : Nat) : (posMask p).getLsbD k = true ↔ p < 64 ∧ k = p := by
  rw [posMask, ← BitVec.twoPow_eq, BitVec.getLsbD_twoPow, Bool.and_eq_true, decide_eq_true_eq, decide_eq_true_eq,
    eq_comm (a := p)]

theorem posMask_ne_zero {p : Nat} (hp : p ∈ drivable) : posMask p ≠ 0#64 := fun h => by
  have hbit := (posMask_getLsbD p p).mpr ⟨by have := lt_of_mem_drivable hp; omega, rfl⟩
  rw [h] at hbit
  simp at hbit

theorem drivableOnly_or_posMask {v : Word64} (hv : drivableOnly v) {p : Nat} (hp : p ∈ drivable) :
    drivableOnly (v ||| posMask p) := fun k hk => by
  rw [BitVec.getLsbD_or, Bool.or_eq_true] at hk
  obtain hk | hk := hk
  · exact hv k hk
  · rw [((posMask_getLsbD p k).mp hk).2]
    exact hp

theorem or_ne_zero_right {v w : Word64} (hw : w ≠ 0#64) : v ||| w ≠ 0#64 := fun h =>
  hw (BitVec.or_eq_zero_iff.mp h).2

theorem mem_drivable_getD {j : Nat} (hj : j < Config.drivableCount) : drivable.getD j 36 ∈ drivable := by
  rw [List.getD_eq_getElem _ _ (show j < drivable.length from hj)]
  exact List.getElem_mem _

/-! ### The registers of the crosstalk detector -/

/-- R45, R182, R190: the working registers of the detector. -/
structure XtWork where
  cur : Word64
  u0 : Word64
  src : Word64
  dst : Word64

/-- The working registers of the detector. -/
def Work.xt (w : Work) : XtWork := ⟨w.cur, w.u0, w.src, w.dst⟩

@[simp] theorem Work.xt_mk (a : Addr) (pat exp : Byte) (rdv : BitVec 16) (bitix : BitVec 4)
    (cand hits : BitVec 16) (u0 cur : Word64) (rdcnt : BitVec 8) (sh sl : BitVec 16) (src dst : Word64) (c : Bool) :
    Work.xt ⟨a, pat, exp, rdv, bitix, cand, hits, u0, cur, rdcnt, sh, sl, src, dst, c⟩ = ⟨cur, u0, src, dst⟩ := rfl

@[simp] theorem xtWork_eta (w : Work) : (⟨w.cur, w.u0, w.src, w.dst⟩ : XtWork) = w.xt := rfl

@[simp] theorem load_xt (v : CellVal) (w : Work) : (v.load w).xt = w.xt := by cases v <;> rfl

/-- What `CrosstalkInv` says of the working registers. -/
def XtWork.Legal (x : XtWork) : Prop :=
  low36 x.cur ∧ low36 x.u0 ∧ low36 x.dst ∧ drivableOnly x.src ∧ (x.src = 0#64 ↔ x.dst = 0#64)

/-- What `CrosstalkInv` says of the result registers. -/
def Results.XtLegal (r : Results) : Prop :=
  low36 r.snap ∧ low36 r.xtBaseline ∧ low36 r.xtDest ∧ drivableOnly r.xtSource ∧ (r.xtSource = 0#64 ↔ r.xtDest = 0#64)

/-- What holds of both in every state. -/
def XtLegal (s : State) : Prop := s.res.XtLegal ∧ s.work.xt.Legal

/-- What holds while `CROSSTALK` is at a position. -/
def AtPosition (s : State) : Prop :=
  s.seq.posk ∈ drivable ∧ (18 ≤ s.seq.op → s.seq.op ≤ 32 → s.work.u0 ≠ 0#64)

theorem crosstalkInv_iff (s : State) : CrosstalkInv s ↔ StageInv .crosstalk XtLegal AtPosition s := by
  constructor
  · rintro ⟨hsnap, hbase, hcur, hu0, hdest, hdst, hsource, hsrc, hres, hwork, hrun⟩
    exact ⟨⟨⟨hsnap, hbase, hdest, hsource, hres⟩, hcur, hu0, hdst, hsrc, hwork⟩, hrun⟩
  · rintro ⟨⟨⟨hsnap, hbase, hdest, hsource, hres⟩, hcur, hu0, hdst, hsrc, hwork⟩, hrun⟩
    exact ⟨hsnap, hbase, hcur, hu0, hdest, hdst, hsource, hsrc, hres, hwork, hrun⟩

theorem xtLegal_zero : Results.zero.XtLegal :=
  ⟨low36_zero, low36_zero, low36_zero, drivableOnly_zero, .rfl⟩

theorem xtWorkLegal_reset : Work.reset.xt.Legal :=
  ⟨low36_zero, low36_zero, low36_zero, drivableOnly_zero, .rfl⟩

/-- The results of the detector are those of `r`. -/
def Results.SameXt (r r' : Results) : Prop :=
  r'.snap = r.snap ∧ r'.xtBaseline = r.xtBaseline ∧ r'.xtSource = r.xtSource ∧ r'.xtDest = r.xtDest

theorem Results.XtLegal.of_same {r r' : Results} (h : r.XtLegal) (hr : r.SameXt r') : r'.XtLegal := by
  obtain ⟨hsnap, hbase, hsource, hdest⟩ := hr
  unfold Results.XtLegal
  rw [hsnap, hbase, hsource, hdest]
  exact h

theorem XtLegal.of_eq {s t : State} (h : XtLegal s) (hres : t.res = s.res) (hwork : t.work.xt = s.work.xt) :
    XtLegal t := by
  unfold XtLegal
  rw [hres, hwork]
  exact h

/-! ### What the other bodies leave -/

section
variable (s : State) (top : Bool)

@[simp] theorem ctlRead_xt (g : Sig) : (ctlRead g s).work.xt = s.work.xt := rfl
@[simp] theorem busRead_xt (b : Bus) : (busRead b s).work.xt = s.work.xt := by cases b <;> rfl
@[simp] theorem startConfirm_xt : (startConfirm s).work.xt = s.work.xt := rfl
@[simp] theorem countSample_xt (hit : Bool) : (countSample hit s).work.xt = s.work.xt := rfl
@[simp] theorem markCand_xt (g : Sig) : (markCand g s).work.xt = s.work.xt := rfl
@[simp] theorem markLow_xt (g : Sig) : (markLow g s).work.xt = s.work.xt := rfl
@[simp] theorem enterLine_xt (line width pos : Nat) : (enterLine line width pos s).work.xt = s.work.xt := by
  rw [enterLine_eq]; rfl
@[simp] theorem cellWrite_xt (v : CellVal) : (cellWrite v s).work.xt = s.work.xt := by simp [cellWrite_eq]
@[simp] theorem cellReadDiscard_xt : (cellReadDiscard s).work.xt = s.work.xt := by rw [cellReadDiscard_eq]; rfl
@[simp] theorem cellFetch_xt (v : CellVal) : (cellFetch v s).work.xt = s.work.xt := by simp [cellFetch_eq]
@[simp] theorem rstopBegin_xt : (rstopBegin s).work.xt = s.work.xt := by rw [rstopBegin_eq]; rfl
@[simp] theorem countRead_xt : (countRead s).work.xt = s.work.xt := rfl
@[simp] theorem waitStep_xt (ms : Nat) : (waitStep ms s).work.xt = s.work.xt := rfl
@[simp] theorem enterPhase_xt (phases : List MemPhase) (j : Nat) :
    (enterPhase phases j s).work.xt = s.work.xt := by rw [enterPhase_eq]; rfl
@[simp] theorem loadPattern_xt (pat : Option Byte) : (loadPattern pat s).work.xt = s.work.xt := rfl

theorem verifyBusBody_xt (b : Bus) : (verifyBusBody b top s).state.work.xt = s.work.xt := by
  unfold verifyBusBody
  split
  · simp
  · unfold verifyDriveLow
    split <;> simp
  · unfold verifyConfirm verifyDecide verifyNextLine
    split
    · split_ifs <;> simp
    · simp
  · unfold verifyDriveHigh
    split <;> simp
  · unfold verifyCleanup
    split <;> simp

theorem verifyCtrlBody_xt : (verifyCtrlBody top s).state.work.xt = s.work.xt := by
  unfold verifyCtrlBody
  split
  · rfl
  · unfold ctrlDriveLow
    split
    case h_4 => dsimp only [more_state]; split <;> simp
    all_goals simp
  · unfold ctrlConfirm ctrlDecide ctrlNextLine
    split
    · split_ifs <;> simp
    · simp
  · unfold ctrlDriveHigh
    split
    case h_3 | h_7 | h_8 => dsimp only [more_state]; split <;> simp
    all_goals simp
  · unfold ctrlCleanup
    split <;> simp

theorem passStep_xt (d : PassDir) (ops : List CellOp) : (passStep d ops s).work.xt = s.work.xt := by
  unfold passStep cellOp
  split
  · split
    case h_2 => simp [cellRead]
    case h_4 v n _ =>
      obtain ⟨-, h⟩ | ⟨-, -, h⟩ | ⟨-, -, h⟩ := rstopTurn_cases d ops v n s <;> rw [h] <;> simp
    all_goals simp
  · simp

theorem memBody_xt (pat : Option Byte) (phases : List MemPhase) :
    (memBody top pat phases s).state.work.xt = s.work.xt := by
  obtain ⟨-, h⟩ | ⟨j, -, -, h⟩ | ⟨j, d, ops, -, -, -, h⟩ | ⟨j, ms, n, -, -, -, h⟩ | ⟨j, p, -, -, h⟩ :=
    memBody_cases top pat phases s <;> rw [h]
  · simp
  · simp
  · exact passStep_xt ..
  · simp
  · unfold endPhase
    split <;> simp

theorem suiteBody_xt : (suiteBody top s).state.work.xt = s.work.xt := by
  have hcall : (memAlgorithmBody (suiteCall s.cfg s.seq.call) s).state.work.xt = s.work.xt := by
    obtain h | ⟨pat, phases, h⟩ := memAlgorithmBody_eq (suiteCall s.cfg s.seq.call) s <;> rw [h]
    · rfl
    · exact memBody_xt s false pat phases
  generalize hr : suiteBody top s = r
  have hstep : SuiteStep top s r := hr ▸ suiteBody_step top s
  cases hstep with
  | prologue | cancel => rfl
  | call _ t h | nextCall t h | last t h => simpa [h] using hcall

theorem activateBody_xt : (activateBody s).state.work.xt = s.work.xt := by
  unfold activateBody
  split
  case h_3 => split <;> simp [raiseFatal]
  case h_5 => split_ifs <;> simp [raiseFatal]
  all_goals simp

theorem deactivateBody_xt : (deactivateBody s).state.work.xt = s.work.xt := by
  unfold deactivateBody
  split
  case h_2 => split_ifs <;> simp [raiseFatal]
  all_goals simp

end

/-- No command but `SAMPLE` and `CROSSTALK` writes the working registers of the detector. -/
theorem bodyIn_xt {i : Instr} (hi : i ≠ .fullpass) (hsample : i ≠ .sample) (hxt : i ≠ .crosstalk) (top : Bool)
    (s : State) : (bodyIn top i s).state.work.xt = s.work.xt := by
  cases hrow : memTable i with
  | some row => rw [bodyIn_of_memTable hrow]; exact memBody_xt ..
  | none =>
    cases i with
    | nop => rfl
    | clear => rfl
    | activate => exact activateBody_xt s
    | deactivate => exact deactivateBody_xt s
    | verifyData | verifyAddr => exact verifyBusBody_xt ..
    | verifyCtrl => exact verifyCtrlBody_xt ..
    | suite => exact suiteBody_xt ..
    | sample => exact absurd rfl hsample
    | crosstalk => exact absurd rfl hxt
    | fullpass => exact absurd rfl hi
    | _ => cases hrow

theorem writeBusRecord_sameXt (b : Bus) (high low : BitVec 16) (s : State) :
    s.res.SameXt (writeBusRecord b high low s).res := by cases b <;> exact ⟨rfl, rfl, rfl, rfl⟩

theorem sameXt_of_eq {r r' : Results} (h : r' = r) : r.SameXt r' := by
  subst h
  exact ⟨rfl, rfl, rfl, rfl⟩

theorem verifyBusBody_sameXt (b : Bus) (top : Bool) (s : State) :
    s.res.SameXt (verifyBusBody b top s).state.res := by
  obtain h | ⟨high, low, h⟩ := verifyBusBody_res s top b
  · exact sameXt_of_eq h
  · rw [h]; exact writeBusRecord_sameXt b high low s

/-- No command but `SAMPLE` and `CROSSTALK` writes the results of the detector, `CLEAR` apart. -/
theorem bodyIn_sameXt {i : Instr} (hi : i ≠ .fullpass) (hsample : i ≠ .sample) (hxt : i ≠ .crosstalk) (top : Bool)
    (s : State) : s.res.SameXt (bodyIn top i s).state.res ∨ (bodyIn top i s).state.res = .zero := by
  cases hrow : memTable i with
  | some row => rw [bodyIn_of_memTable hrow, memBody_writesTr s top row.1 row.2]; exact .inl ⟨rfl, rfl, rfl, rfl⟩
  | none =>
    cases i with
    | nop => exact .inl ⟨rfl, rfl, rfl, rfl⟩
    | clear => exact .inr rfl
    | activate => exact .inl (sameXt_of_eq (activateBody_res s))
    | deactivate => exact .inl (sameXt_of_eq (deactivateBody_res s))
    | verifyData => exact .inl (verifyBusBody_sameXt .data top s)
    | verifyAddr => exact .inl (verifyBusBody_sameXt .address top s)
    | verifyCtrl =>
      obtain h | ⟨high, low, h⟩ := verifyCtrlBody_res s top
      · exact .inl (sameXt_of_eq h)
      · left
        change s.res.SameXt (verifyCtrlBody top s).state.res
        rw [h]
        exact ⟨rfl, rfl, rfl, rfl⟩
    | suite =>
      have h := suiteBody_buses s top
      exact .inl ⟨(congrArg Results.snap h :), (congrArg Results.xtBaseline h :), (congrArg Results.xtSource h :),
        (congrArg Results.xtDest h :)⟩
    | sample => exact absurd rfl hsample
    | crosstalk => exact absurd rfl hxt
    | fullpass => exact absurd rfl hi
    | _ => cases hrow

/-! ### SAMPLE and CROSSTALK -/

section
variable {s : State}

/-- R182: a read of a snapshot puts bits below 36 into `CUR`, and nothing else of the detector. -/
theorem snapRead_work (k : Nat) (hcur : low36 s.work.cur) :
    ∃ c, low36 c ∧ (snapRead k s).work.xt = { s.work.xt with cur := c } := by
  unfold snapRead
  split
  · refine ⟨_, ?_, rfl⟩
    simpa using low36_shift (addrRead s).work.rdv (i := 0) (by omega)
  · exact ⟨_, low36_or hcur (low36_shift _ (by omega)), rfl⟩
  case h_3 k =>
    have hidx := (snapSig k).idx.isLt
    exact ⟨_, low36_or hcur (low36_shift _ (by omega)), rfl⟩

theorem XtLegal.snapRead (h : XtLegal s) (k : Nat) : XtLegal (snapRead k s) := by
  obtain ⟨hres, hcur, hlegal⟩ := h
  obtain ⟨c, hc, hwork⟩ := snapRead_work k hcur
  refine ⟨?_, ?_⟩
  · rw [(snapRead_frame s k).2.2.1]; exact hres
  · rw [hwork]; exact ⟨hc, hlegal⟩

@[simp] theorem countSample_u0 (hit : Bool) : (countSample hit s).work.u0 = s.work.u0 := rfl

theorem snapRead_u0 (k : Nat) : (Machine.snapRead k s).work.u0 = s.work.u0 := by
  unfold Machine.snapRead
  split <;> rfl

theorem XtLegal.writeXt (h : XtLegal s) : XtLegal (writeXt s.work.src s.work.dst s) := by
  obtain ⟨⟨hsnap, hbase, -, -, -⟩, hcur, hu0, hdst, hsrc, hiff⟩ := h
  exact ⟨⟨hsnap, hbase, hdst, hsrc, hiff⟩, hcur, hu0, hdst, hsrc, hiff⟩

theorem sampleBody_legal (h : XtLegal s) : XtLegal (sampleBody s).state := by
  unfold sampleBody
  split
  · exact (h.snapRead s.seq.op).of_eq rfl rfl
  · obtain ⟨⟨-, hbase⟩, hcur, hwork⟩ := h
    exact ⟨⟨hcur, hbase⟩, hcur, hwork⟩

/-- R186: the prologue keeps the masks, and leaves the engine at the first position. -/
theorem xtPrologue_legal (h : XtLegal s) (hp : s.seq.phase = 0) :
    XtLegal (xtPrologue s) ∧ ((xtPrologue s).seq.phase ≠ 0 → AtPosition (xtPrologue s)) := by
  unfold xtPrologue
  split_ifs
  · obtain ⟨⟨hsnap, hbase, -, -, -⟩, hwork⟩ := h
    exact ⟨⟨⟨hsnap, hbase, low36_zero, drivableOnly_zero, .rfl⟩, hwork⟩, fun hne => absurd hp hne⟩
  · exact ⟨(h.snapRead _).of_eq rfl rfl, fun hne => absurd (by simpa using hp) hne⟩
  · obtain ⟨⟨hsnap, -, hdest, hsource, hiff⟩, hcur, hu0, -, -, -⟩ := h
    exact ⟨⟨⟨hsnap, hcur, hdest, hsource, hiff⟩, hcur, hu0, low36_zero, drivableOnly_zero, .rfl⟩,
      fun _ => ⟨mem_drivable_getD (j := 0) (by decide), fun h18 => absurd h18 (by simp [enterPosition])⟩⟩

theorem xtTrigger_legal (h : XtLegal s) (hat : s.seq.posk ∈ drivable) :
    XtLegal (xtTrigger s) ∧ AtPosition (xtTrigger s) := by
  obtain ⟨hres, hcur, -, hwork⟩ := h
  have hlegal : XtLegal (s.setWork { s.work with
      u0 := unexpected s.work.cur s.res.xtBaseline s.seq.posk }) :=
    ⟨hres, hcur, low36_unexpected hcur hres.2.1 s.seq.posk, hwork⟩
  unfold xtTrigger
  dsimp only
  split
  · exact ⟨hlegal.of_eq rfl rfl, hat, fun _ h32 => absurd h32 (by simp)⟩
  · exact ⟨hlegal.of_eq rfl rfl, hat, fun _ _ => ‹_›⟩

theorem xtDecide_legal (h : XtLegal s) (hat : s.seq.posk ∈ drivable) (hu : s.work.u0 ≠ 0#64) :
    XtLegal (xtDecide s) ∧ AtPosition (xtDecide s) := by
  obtain ⟨hres, hcur, hu0, hdst, hsrc, hiff⟩ := h
  unfold xtDecide
  split
  · refine ⟨⟨hres, hcur, hu0, low36_or hdst hu0, drivableOnly_or_posMask hsrc hat, ?_⟩, hat,
      fun _ h32 => absurd h32 (by simp)⟩
    exact iff_of_false (or_ne_zero_right (posMask_ne_zero hat)) (or_ne_zero_right hu)
  · exact ⟨⟨hres, hcur, hu0, hdst, hsrc, hiff⟩, hat, fun _ h32 => absurd h32 (by simp)⟩

theorem xtNext_legal (h : XtLegal s) (top : Bool) :
    (xtNext top s).Comes (fun t => XtLegal t ∧ AtPosition t) XtLegal fun _ => False := by
  unfold xtNext
  split
  · exact ⟨h.of_eq (by simp [enterPosition]) (by simp [enterPosition]), mem_drivable_getD ‹_›,
      fun h18 => absurd h18 (by simp [enterPosition])⟩
  · exact h.writeXt.of_eq (by simp [Machine.writeXt]) (by simp)

/-- R186 to R190: a step of a position keeps the masks, and stays at a drivable position. -/
theorem xtPosition_legal (h : XtLegal s) (hat : AtPosition s) (top : Bool) :
    (xtPosition top s).Comes (fun t => XtLegal t ∧ AtPosition t) XtLegal fun _ => False := by
  obtain ⟨hposk, hu⟩ := hat
  generalize hr : xtPosition top s = r
  have hstep : XtStep s top r := hr ▸ xtPosition_step s top
  cases hstep with
  | cancel => exact h.writeXt
  | trigger => exact xtTrigger_legal h hposk
  | decide hop => exact xtDecide_legal h hposk (hu (by omega) (by omega))
  | next => exact xtNext_legal h top
  | read hop => exact ⟨(h.snapRead _).of_eq rfl rfl, by simpa using hposk, fun h18 => by simp at h18; omega⟩
  | sampleRead hop =>
    exact ⟨(h.snapRead _).of_eq rfl rfl, by simpa using hposk,
      fun _ _ => by simpa [snapRead_u0] using hu (by omega) (by omega)⟩
  | sample hop =>
    exact ⟨(h.snapRead 13).of_eq (by simp [xtSample]) (by simp [xtSample]), by simpa [xtSample] using hposk,
      fun _ _ => by simpa [xtSample, snapRead_u0] using hu (by omega) (by omega)⟩
  | wait hop => exact ⟨h.of_eq (by simp) (by simp), by simpa using hposk, fun _ _ => by simpa using hu (by omega) (by omega)⟩
  | driveFirst =>
    exact ⟨h.of_eq (by simp) (by simp), by simpa using hposk, fun h18 => by
      simp at h18; split at h18 <;> omega⟩
  | driveSecond | settle =>
    exact ⟨h.of_eq (by simp) (by simp), by simpa using hposk, fun h18 => by simp at h18⟩
  | releaseFirst =>
    exact ⟨h.of_eq (by simp) (by simp), by simpa using hposk, fun _ h32 => by
      simp at h32; split at h32 <;> omega⟩
  | releaseSecond =>
    exact ⟨h.of_eq (by simp) (by simp), by simpa using hposk, fun _ h32 => by simp at h32⟩

end

theorem crosstalkBody_legal (top : Bool) {s : State} (h : BodyInv .crosstalk XtLegal AtPosition .crosstalk s) :
    (crosstalkBody top s).Comes (BodyInv .crosstalk XtLegal AtPosition .crosstalk) XtLegal fun _ => False := by
  unfold crosstalkBody
  split
  case h_1 hp =>
    obtain ⟨hlegal, hat⟩ := xtPrologue_legal h.1 hp
    exact ⟨hlegal, fun _ => hat⟩
  case h_2 hp =>
    exact (xtPosition_legal h.1 (h.2 rfl (by omega)) top).mono (fun t h => ⟨h.1, fun _ _ => h.2⟩) (fun _ h => h)
      fun _ h => h

theorem bodyIn_xtLegal {i : Instr} (hi : i ≠ .fullpass) (hxt : i ≠ .crosstalk) (top : Bool) {s : State}
    (h : XtLegal s) : XtLegal (bodyIn top i s).state := by
  by_cases hsample : i = .sample
  · subst hsample
    exact sampleBody_legal h
  · refine ⟨?_, ?_⟩
    · obtain hres | hres := bodyIn_sameXt hi hsample hxt top s
      · exact h.1.of_same hres
      · rw [hres]; exact xtLegal_zero
    · rw [bodyIn_xt hi hsample hxt top s]
      exact h.2

/-- Settles O52. -/
theorem crosstalkKept : Obligations.CrosstalkKept := by
  unfold Obligations.CrosstalkKept
  intro s t hs h
  rw [crosstalkInv_iff] at hs ⊢
  refine stageInv_kept (by decide) (fun {s t} h hs => ?_) (fun {s t} hres hwork hs => ?_)
    (fun {s t} hres hwork hs => ?_) ⟨xtLegal_zero, xtWorkLegal_reset⟩ (fun i top s hi hs => ?_) hs h
  · unfold AtPosition
    rw [eq_of_core h State.seq, eq_of_core h State.work]
    exact hs
  · exact hs.of_eq hres (congrArg Work.xt hwork :)
  · refine ⟨hres ▸ xtLegal_zero, ?_⟩
    rw [show t.work.xt = s.work.xt from (congrArg Work.xt hwork :)]
    exact hs.2
  · by_cases hxt : i = .crosstalk
    · subst hxt
      exact (crosstalkBody_legal top hs).mono (fun _ h => h) (fun _ h => h) fun _ h => h.elim
    · exact (comes_self (P := XtLegal) (bodyIn_xtLegal hi hxt top hs.1)).mono
        (fun t h => ⟨h, fun h => absurd h hxt⟩) (fun _ h => h) fun t h => ⟨h, fun h => absurd h hxt⟩

end Sys2Proof.Machine
end

section
/-! The pins by command (O41): a step leaves them, or is one pin operation on a line the command may drive. -/

namespace Sys2Proof.Machine
open Sys2Proof

/-- Lines: the data bus, the address bus, control signals. -/
structure Lines where
  data : Prop
  addr : Prop
  sig : Sig → Prop

/-- R32: the pins as they were, or after one operation on one of the lines `l`. -/
inductive PinStep (l : Lines) (p : Pins) : Pins → Prop
  | still : PinStep l p p
  | dataDir (h : l.data) (d : Dir) : PinStep l p { p with dataDir := d }
  | dataOut (h : l.data) (v : Byte) : PinStep l p { p with dataOut := v }
  | addrDir (h : l.addr) (d : Dir) : PinStep l p { p with addrDir := d }
  | addrOut (h : l.addr) (v : Addr) : PinStep l p { p with addrOut := v }
  | ctlDir (g : Sig) (h : l.sig g) (d : Dir) :
      PinStep l p { p with ctlDir := p.ctlDir.set g.idx.val d g.idx.isLt }
  | ctlOut (g : Sig) (h : l.sig g) (b : Bool) :
      PinStep l p { p with ctlOut := p.ctlOut.set g.idx.val b g.idx.isLt }

@[simp] theorem pinStep_refl (l : Lines) (p : Pins) : PinStep l p p := .still

/-! ### What such a step leaves -/

section
variable {l : Lines} {p q : Pins}

theorem PinStep.mono {l' : Lines} (h : PinStep l p q) (hdata : l.data → l'.data) (haddr : l.addr → l'.addr)
    (hsig : ∀ g, l.sig g → l'.sig g) : PinStep l' p q := by
  cases h with
  | still => exact .still
  | dataDir h d => exact .dataDir (hdata h) d
  | dataOut h v => exact .dataOut (hdata h) v
  | addrDir h d => exact .addrDir (haddr h) d
  | addrOut h v => exact .addrOut (haddr h) v
  | ctlDir g h d => exact .ctlDir g (hsig g h) d
  | ctlOut g h b => exact .ctlOut g (hsig g h) b

theorem PinStep.eq_of_data (h : PinStep l p q) (haddr : ¬ l.addr) (hsig : ∀ g, ¬ l.sig g) :
    q = { p with dataOut := q.dataOut, dataDir := q.dataDir } := by
  cases h with
  | still | dataDir | dataOut => rfl
  | addrDir h | addrOut h => exact absurd h haddr
  | ctlDir g h | ctlOut g h => exact absurd h (hsig g)

theorem PinStep.eq_of_addr (h : PinStep l p q) (hdata : ¬ l.data) (hsig : ∀ g, ¬ l.sig g) :
    q = { p with addrOut := q.addrOut, addrDir := q.addrDir } := by
  cases h with
  | still | addrDir | addrOut => rfl
  | dataDir h | dataOut h => exact absurd h hdata
  | ctlDir g h | ctlOut g h => exact absurd h (hsig g)

theorem PinStep.eq_of_sig (h : PinStep l p q) (hdata : ¬ l.data) (haddr : ¬ l.addr) :
    q = { p with ctlOut := q.ctlOut, ctlDir := q.ctlDir } := by
  cases h with
  | still | ctlDir | ctlOut => rfl
  | dataDir h | dataOut h => exact absurd h hdata
  | addrDir h | addrOut h => exact absurd h haddr

/-- One signal alone may be driven: its direction and its level are all that changes. -/
theorem PinStep.eq_of_signal {g : Sig} (h : PinStep ⟨False, False, (· = g)⟩ p q) :
    ∃ d b, q = { p with
      ctlDir := p.ctlDir.set g.idx.val d g.idx.isLt, ctlOut := p.ctlOut.set g.idx.val b g.idx.isLt } := by
  have hdir : p.ctlDir.set g.idx.val (p.dirOf g) g.idx.isLt = p.ctlDir := Vector.set_getElem_self ..
  have hout : p.ctlOut.set g.idx.val (p.outOf g) g.idx.isLt = p.ctlOut := Vector.set_getElem_self ..
  cases h with
  | still => exact ⟨p.dirOf g, p.outOf g, by rw [hdir, hout]⟩
  | ctlDir k h d =>
    subst h
    exact ⟨d, p.outOf k, by rw [hout]⟩
  | ctlOut k h b =>
    subst h
    exact ⟨p.dirOf k, b, by rw [hdir]⟩
  | dataDir h | dataOut h | addrDir h | addrOut h => exact h.elim

/-- A signal that may not be driven keeps its direction and its level. -/
theorem PinStep.keeps_line (h : PinStep l p q) {g : Sig} (hg : ¬ l.sig g) :
    q.dirOf g = p.dirOf g ∧ q.outOf g = p.outOf g := by
  cases h with
  | ctlDir k h d => exact ⟨by rw [dirOf_set, if_neg]; rintro rfl; exact hg h, rfl⟩
  | ctlOut k h b => exact ⟨rfl, by rw [outOf_set, if_neg]; rintro rfl; exact hg h⟩
  | _ => exact ⟨rfl, rfl⟩

end

/-! ### The operations -/

section
variable (s : State) {l : Lines}

@[simp] theorem ctlDir_pinStep {g : Sig} (d : Dir) (h : l.sig g) : PinStep l s.pins (ctlDir g d s).pins :=
  .ctlDir g h d
@[simp] theorem ctlWrite_pinStep {g : Sig} (b : Bool) (h : l.sig g) : PinStep l s.pins (ctlWrite g b s).pins :=
  .ctlOut g h b

/-- The lines of a bus (R155, R158). -/
def Bus.lines (b : Bus) : Lines := ⟨b = .data, b = .address, fun _ => False⟩

@[simp] theorem busDir_pinStep (b : Bus) (d : Dir) : PinStep b.lines s.pins (busDir b d s).pins := by
  cases b
  · exact .dataDir rfl d
  · exact .addrDir rfl d

@[simp] theorem busWrite_pinStep (b : Bus) (v : BitVec 16) : PinStep b.lines s.pins (busWrite b v s).pins := by
  cases b
  · exact .dataOut rfl (v.setWidth 8)
  · exact .addrOut rfl v

/-- R161 to R163: the control signals a test may drive. -/
def Sig.Drivable (g : Sig) : Prop := g ≠ .test ∧ g ≠ .sysRes ∧ g ≠ .intAck

theorem sigG_drivable (k : Nat) : (sigG k).Drivable := by
  unfold sigG
  split <;> simp [Sig.Drivable]

theorem sigW_drivable (k : Nat) : (sigW k).Drivable := by
  unfold sigW
  split <;> simp [Sig.Drivable]

/-- R161: the lines of the control set. -/
def ctrlLines : Lines := ⟨False, False, Sig.Drivable⟩

/-- R131, R185: the drivable lines. -/
def xtLines : Lines := ⟨True, True, Sig.Drivable⟩

@[simp] theorem ctrlLines_sigG (k : Nat) : ctrlLines.sig (sigG k) := sigG_drivable k
@[simp] theorem ctrlLines_sigW (k : Nat) : ctrlLines.sig (sigW k) := sigW_drivable k

/-- R185: what drives a position. -/
inductive Drives : Driver → Prop
  | addrLine (i : Nat) : Drives (.addrLine i)
  | dataLine (i : Nat) : Drives (.dataLine i)
  | generic (g : Sig) (hg : g.Drivable) : Drives (.generic g)
  | writeOnly (g : Sig) (hg : g.Drivable) : Drives (.writeOnly g)

theorem driverOf_drives (p : Nat) : Drives (driverOf p) := by
  unfold driverOf
  split
  · exact .addrLine p
  split
  · exact .dataLine _
  split
  case h_8 | h_9 => exact .writeOnly _ (by simp [Sig.Drivable])
  all_goals exact .generic _ (by simp [Sig.Drivable])

@[simp] theorem driveFirst_pinStep (p : Nat) : PinStep xtLines s.pins (driveFirst p s).pins := by
  have hd := driverOf_drives p
  unfold driveFirst
  generalize driverOf p = d at hd
  cases hd with
  | addrLine => exact .addrDir trivial .output
  | dataLine => exact .dataDir trivial .output
  | generic g hg => exact ctlDir_pinStep s .output hg
  | writeOnly g hg => exact ctlWrite_pinStep s true hg

@[simp] theorem driveSecond_pinStep (p : Nat) : PinStep xtLines s.pins (driveSecond p s).pins := by
  have hd := driverOf_drives p
  unfold driveSecond
  generalize driverOf p = d at hd
  cases hd with
  | addrLine => exact .addrOut trivial _
  | dataLine => exact .dataOut trivial _
  | generic g hg => exact ctlWrite_pinStep s true hg
  | writeOnly => exact .still

@[simp] theorem releaseFirst_pinStep (p : Nat) : PinStep xtLines s.pins (releaseFirst p s).pins := by
  have hd := driverOf_drives p
  unfold releaseFirst
  generalize driverOf p = d at hd
  cases hd with
  | addrLine => exact .addrOut trivial _
  | dataLine => exact .dataOut trivial _
  | generic g hg | writeOnly g hg => exact ctlWrite_pinStep s false hg

@[simp] theorem releaseSecond_pinStep (p : Nat) : PinStep xtLines s.pins (releaseSecond p s).pins := by
  have hd := driverOf_drives p
  unfold releaseSecond
  generalize driverOf p = d at hd
  cases hd with
  | addrLine => exact .addrDir trivial .input
  | dataLine => exact .dataDir trivial .input
  | generic g hg => exact ctlDir_pinStep s .input hg
  | writeOnly => exact .still

/-! ### The bodies -/

theorem verifyBusBody_pinStep (b : Bus) (top : Bool) : PinStep b.lines s.pins (verifyBusBody b top s).state.pins := by
  unfold verifyBusBody
  split
  · simp
  · unfold verifyDriveLow
    split <;> simp
  · unfold verifyConfirm verifyDecide verifyNextLine
    split
    · split_ifs <;> simp
    · simp
  · unfold verifyDriveHigh
    split <;> simp
  · unfold verifyCleanup
    split <;> simp

theorem verifyCtrlBody_pinStep (top : Bool) : PinStep ctrlLines s.pins (verifyCtrlBody top s).state.pins := by
  unfold verifyCtrlBody
  split
  · simp [ctrlPrologue]
  · unfold ctrlDriveLow
    split
    case h_4 => dsimp only [more_state]; split <;> simp
    all_goals simp
  · unfold ctrlConfirm ctrlDecide ctrlNextLine
    split
    · split_ifs <;> simp
    · simp
  · unfold ctrlDriveHigh
    split
    case h_3 | h_7 | h_8 => dsimp only [more_state]; split <;> simp
    all_goals simp
  · unfold ctrlCleanup
    split <;> simp

theorem crosstalkBody_pinStep (top : Bool) : PinStep xtLines s.pins (crosstalkBody top s).state.pins := by
  unfold crosstalkBody
  split
  · unfold xtPrologue enterPosition
    split_ifs <;> simp
  · generalize hr : xtPosition top s = r
    have hstep : XtStep s top r := hr ▸ xtPosition_step s top
    cases hstep with
    | trigger =>
      unfold xtTrigger
      dsimp only [more_state]
      split <;> simp
    | decide =>
      unfold xtDecide
      dsimp only [more_state]
      split <;> simp
    | sample => simp [xtSample]
    | next =>
      unfold xtNext enterPosition
      split <;> simp
    | _ => simp

/-- R210: the line of `TEST`. -/
def testLines : Lines := ⟨False, False, (· = .test)⟩

theorem activateBody_pinStep : PinStep testLines s.pins (activateBody s).state.pins := by
  have hline : testLines.sig .test := rfl
  unfold activateBody
  split
  case h_3 => split <;> simp [hline, raiseFatal]
  case h_5 => split_ifs <;> simp [raiseFatal]
  all_goals simp [hline]

theorem deactivateBody_pinStep : PinStep testLines s.pins (deactivateBody s).state.pins := by
  have hline : testLines.sig .test := rfl
  unfold deactivateBody
  split
  case h_2 => split_ifs <;> simp [hline, raiseFatal]
  all_goals simp [hline]

/-- The lines each command may drive; `FULLPASS` those of its stages. -/
def linesOf : Instr → Lines
  | .verifyData => Bus.data.lines
  | .verifyAddr => Bus.address.lines
  | .verifyCtrl => ctrlLines
  | .crosstalk => xtLines
  | .activate | .deactivate => testLines
  | .fullpass => ⟨True, True, fun g => g ≠ .sysRes ∧ g ≠ .intAck⟩
  | _ => ⟨False, False, fun _ => False⟩

theorem primitive_pinStep {i : Instr} (hi : i ≠ .fullpass) (top : Bool) :
    PinStep (linesOf i) s.pins (bodyIn top i s).state.pins := by
  by_cases h : movesPins i = false
  · rw [bodyIn_pins h]; exact .still
  cases i with
  | verifyData | verifyAddr => exact verifyBusBody_pinStep ..
  | verifyCtrl => exact verifyCtrlBody_pinStep ..
  | crosstalk => exact crosstalkBody_pinStep ..
  | activate => exact activateBody_pinStep s
  | deactivate => exact deactivateBody_pinStep s
  | fullpass => exact absurd rfl hi
  | _ => exact absurd rfl h

/-- No command drives `SYS_RES` or `INT_ACK`. -/
theorem linesOf_not_readOnly (i : Instr) {g : Sig} (hg : g = .sysRes ∨ g = .intAck) : ¬ (linesOf i).sig g := by
  cases i <;> obtain rfl | rfl := hg <;> simp [linesOf, Bus.lines, ctrlLines, xtLines, testLines, Sig.Drivable]

theorem fullpassBody_pinStep : PinStep (linesOf .fullpass) s.pins (fullpassBody s).state.pins := by
  have hbody : PinStep (linesOf .fullpass) s.pins (bodyIn false (stageCommand s.seq.stage) s).state.pins := by
    refine (primitive_pinStep s (stageCommand_ne_fullpass s.seq.stage) false).mono (fun _ => trivial)
      (fun _ => trivial) fun g hg => ⟨?_, ?_⟩ <;> rintro rfl
    · exact linesOf_not_readOnly _ (.inl rfl) hg
    · exact linesOf_not_readOnly _ (.inr rfl) hg
  generalize hr : fullpassBody s = r
  have hstep : FullpassStep s r := hr ▸ fullpassBody_step s
  cases hstep with
  | prologue | cancelStart => exact .still
  | within _ t h | ended _ t h | cancelled _ t h | fatal _ t h => simpa [h] using hbody
  | nextStage _ _ t h | cancelIn _ _ t h => simpa [h] using hbody

end

theorem exec_pinStep {i : Instr} {s t : State} (h : exec i s = .next t) : PinStep (linesOf i) s.pins t.pins := by
  obtain ⟨-, ⟨-, rfl⟩ | ⟨-, rfl⟩⟩ := exec_next h
  · rw [(present_frame i s).2.1]; exact .still
  · rw [(finish_frame _).2.2.1, bodyOf_eq_bodyIn]
    by_cases hi : i = .fullpass
    · subst hi; exact fullpassBody_pinStep s
    · exact primitive_pinStep s hi true

/-- R210: the mode changes in `ACTIVATE`, `DEACTIVATE` and `FULLPASS` alone. -/
theorem exec_mode {i : Instr} (hi : changesMode i = false) {s t : State} (h : exec i s = .next t) :
    t.mode = s.mode := by
  obtain ⟨-, ⟨-, rfl⟩ | ⟨-, rfl⟩⟩ := exec_next h
  · exact (present_frame i s).1
  · rw [(finish_frame _).1, bodyOf_eq_bodyIn]
    exact eq_of_fixed (bodyIn_framed hi true s).1 State.mode

theorem linesOf_test {i : Instr} (hi : changesMode i = false) : ¬ (linesOf i).sig .test := by
  cases i with
  | activate | deactivate | fullpass => cases hi
  | verifyCtrl | crosstalk => exact fun h => h.1 rfl
  | _ => exact id

theorem movesPins_of_phases {i : Instr} (h : Spec.phases i ≠ []) : movesPins i = false := by
  cases i <;> first | rfl | exact absurd rfl h

/-- Settles O41. -/
theorem pinFrame : Obligations.PinFrame := by
  unfold Obligations.PinFrame
  intro i s t h
  have hstep := exec_pinStep h
  refine ⟨fun hi => ?_, ?_, ?_, ?_, ?_, fun hact hdeact hfull => ?_, fun g hg => ?_⟩
  · have hstill : movesPins i = false := by
      obtain rfl | rfl | rfl | rfl | hphases := hi
      case inr.inr.inr.inr => exact movesPins_of_phases hphases
      all_goals rfl
    obtain ⟨-, ⟨-, rfl⟩ | ⟨-, rfl⟩⟩ := exec_next h
    · exact (present_frame i s).2.1
    · rw [(finish_frame _).2.2.1, bodyOf_eq_bodyIn, bodyIn_pins hstill]
  · rintro rfl
    exact hstep.eq_of_data Bus.noConfusion fun _ => id
  · rintro rfl
    exact hstep.eq_of_addr Bus.noConfusion fun _ => id
  · rintro rfl
    exact hstep.eq_of_sig id id
  · rintro (rfl | rfl) <;> exact PinStep.eq_of_signal (g := .test) hstep
  · have hmode : changesMode i = false := by cases i <;> first | rfl | contradiction
    obtain ⟨hdir, hout⟩ := hstep.keeps_line (linesOf_test hmode)
    exact ⟨exec_mode hmode h, hdir, hout⟩
  · exact hstep.keeps_line (linesOf_not_readOnly i hg)

end Sys2Proof.Machine
end

section
/-! The host port (O6, O7, O13) and `STATUS` (O8): the register map as a list of registers, and the turns of the
host. -/

namespace Sys2Proof.Machine
open Sys2Proof

/-! ### The register map (R60) -/

/-- R60: the index of a register. -/
def RegId.index : RegId → Nat
  | .cmd => 0x00 | .status => 0x01 | .progress => 0x02 | .control => 0x03 | .regionStart => 0x04
  | .regionLength => 0x05
  | .icRef i => 0x08 + i.val
  | .cfgSettleDelay => 0x10 | .cfgConfirmDelay => 0x11 | .cfgConfirmLoops => 0x12 | .cfgStuckPct => 0x13
  | .cfgXtPct => 0x14 | .cfgActPct => 0x15 | .cfgRetDelayMs => 0x16 | .cfgRetRepeat => 0x17 | .cfgRdReads => 0x18
  | .frdStuckHigh => 0x20 | .frdStuckLow => 0x21 | .fraStuckHigh => 0x22 | .fraStuckLow => 0x23
  | .frcStuckHigh => 0x24 | .frcStuckLow => 0x25 | .issues => 0x26
  | .xtSource => 0x28 | .xtDest => 0x29 | .snap => 0x2A | .xtBaseline => 0x2B
  | .trTotal => 0x30
  | .trBit i => 0x31 + i.val
  | .aggTotal => 0x40
  | .aggBit i => 0x41 + i.val
  | .aggFaultyMask => 0x49 | .slogCount => 0x4A
  | .slogCmd c => 0x100 + 16 * c.val
  | .slogTotal c => 0x101 + 16 * c.val
  | .slogBit c i => 0x102 + 16 * c.val + i.val

/-- What the map gives at index `n` has that index. -/
def Placed (n : Nat) (o : Option RegId) : Prop := ∀ r, o = some r → r.index = n

section
variable {n : Nat} {p : Prop} [Decidable p] {o : Option RegId}

theorem placed_none : Placed n none := fun _ h => nomatch h

theorem placed_some {r : RegId} (h : r.index = n) : Placed n (some r) := by
  rintro _ ⟨⟩
  exact h

theorem placed_at {k : Nat} {r : RegId} (hr : r.index = k) (h : Placed n o) :
    Placed n (if n = k then some r else o) := by
  split
  · exact placed_some (hr.trans (Eq.symm ‹_›))
  · exact h

theorem placed_range {f : p → Option RegId} (hf : ∀ hp, Placed n (f hp)) (h : Placed n o) :
    Placed n (if hp : p then f hp else o) := by
  split
  · exact hf _
  · exact h

end

theorem placed_slogReg (c : Fin 19) (offset : Nat) : Placed (0x100 + 16 * c.val + offset) (slogReg c offset) := by
  unfold slogReg
  split
  · exact placed_some (by simp only [RegId.index]; omega)
  split
  · exact placed_some (by simp only [RegId.index]; omega)
  split
  · exact placed_some (by simp only [RegId.index]; omega)
  · exact placed_none

theorem placed_regOf (n : Nat) : Placed n (regOf n) := by
  unfold regOf
  iterate 6 refine placed_at rfl ?_
  refine placed_range (fun _ => placed_some (by simp only [RegId.index]; omega)) ?_
  iterate 21 refine placed_at rfl ?_
  refine placed_range (fun _ => placed_some (by simp only [RegId.index]; omega)) ?_
  refine placed_at rfl ?_
  refine placed_range (fun _ => placed_some (by simp only [RegId.index]; omega)) ?_
  iterate 2 refine placed_at rfl ?_
  refine placed_range (fun _ => ?_) placed_none
  have hslog := placed_slogReg ⟨(n - 0x100) / 16, by omega⟩ ((n - 0x100) % 16)
  rwa [show 0x100 + 16 * ((n - 0x100) / 16) + (n - 0x100) % 16 = n by omega] at hslog

theorem regOf_index (r : RegId) : regOf r.index = some r := by
  cases r with
  | icRef i | trBit i | aggBit i => revert i; decide
  | slogCmd c | slogTotal c => revert c; decide
  | slogBit c i => revert c i; decide
  | _ => rfl

theorem regOf_eq_some_iff (n : Nat) (r : RegId) : regOf n = some r ↔ r.index = n :=
  ⟨placed_regOf n r, fun h => h ▸ regOf_index r⟩

/-- The registers with an index of their own, in the order of `Spec.registers`. -/
def RegId.plain : List RegId :=
  [.cmd, .status, .progress, .control, .regionStart, .regionLength, .cfgSettleDelay, .cfgConfirmDelay,
   .cfgConfirmLoops, .cfgStuckPct, .cfgXtPct, .cfgActPct, .cfgRetDelayMs, .cfgRetRepeat, .cfgRdReads,
   .frdStuckHigh, .frdStuckLow, .fraStuckHigh, .fraStuckLow, .frcStuckHigh, .frcStuckLow, .issues, .xtSource,
   .xtDest, .snap, .xtBaseline, .trTotal, .aggTotal, .aggFaultyMask, .slogCount]

/-- The registers of one entry of the log. -/
def RegId.slog (c : Fin 19) : List RegId :=
  [RegId.slogCmd c, RegId.slogTotal c] ++ (List.finRange 8).map (RegId.slogBit c)

/-- The registers in the order of `Spec.registers`. -/
def RegId.all : List RegId :=
  RegId.plain ++ (List.finRange 8).map RegId.icRef ++ (List.finRange 8).map RegId.trBit
    ++ (List.finRange 8).map RegId.aggBit ++ (List.finRange 19).flatMap RegId.slog

theorem RegId.mem_all (r : RegId) : r ∈ RegId.all := by
  cases r <;> simp [RegId.all, RegId.plain, RegId.slog]

theorem control_value (s : State) : s.control.setWidth 64 = if s.cancelReq then 1#64 else 0#64 := by
  unfold State.control
  cases s.cancelReq <;> rfl

theorem registers_eq (s : State) : Spec.registers s = RegId.all.map fun r => (r.index, r.width, r.value s) := by
  simp [Spec.registers, RegId.all, RegId.plain, RegId.slog, RegId.index, RegId.width, RegId.value, control_value, List.map_flatMap,
    Function.comp_def]

theorem mem_registers_iff (s : State) (n width : Nat) (value : Word64) :
    (n, width, value) ∈ Spec.registers s ↔ ∃ r, regOf n = some r ∧ r.width = width ∧ r.value s = value := by
  rw [registers_eq, List.mem_map]
  constructor
  · rintro ⟨r, -, h⟩
    cases h
    exact ⟨r, regOf_index r, rfl, rfl⟩
  · rintro ⟨r, hr, rfl, rfl⟩
    exact ⟨r, r.mem_all, by rw [(regOf_eq_some_iff n r).mp hr]⟩

end Sys2Proof.Machine
end

section
/-! The turns of the host (O6, O7, O13), and `STATUS` (O8). -/

namespace Sys2Proof.Machine
open Sys2Proof

/-! ### A read (R60 to R62) -/

theorem isResult_iff (r : RegId) : r.isResult = true ↔ 0x20 ≤ r.index := by
  cases r <;> simp [RegId.isResult, RegId.index] <;> omega

theorem lowBits_toNat (w : Nat) (v : Word64) : (lowBits w v).toNat = v.toNat % 2 ^ w := by
  have hlt : v.toNat % 2 ^ w < 2 ^ 64 := lt_of_le_of_lt (Nat.mod_le ..) v.isLt
  rw [lowBits, BitVec.toNat_setWidth, BitVec.toNat_setWidth, Nat.mod_eq_of_lt hlt]

/-- R61: a result register while a command runs, and no other. -/
theorem readUnspecified_iff {s : State} {n : Nat} {r : RegId} (hr : regOf n = some r) :
    s.readUnspecified r = true ↔ s.Running ∧ 0x20 ≤ n := by
  rw [← (regOf_eq_some_iff n r).mp hr, ← isResult_iff]
  simp only [State.readUnspecified, Bool.and_eq_true, Bool.not_eq_true', decide_eq_false_iff_not]
  tauto

/-- The value of a register is not in the host's list. -/
theorem value_host (r : RegId) (s : State) (host : List HostAct) : r.value { s with host := host } = r.value s := by
  cases r <;> rfl

section
variable {s : State} {n : Nat} {r : RegId}

theorem hostRead_specified (hr : regOf n = some r) (h : s.Running → n < 0x20) :
    hostRead n s = { s with replies := ⟨n, r.value s⟩ :: s.replies } := by
  have hspec : ¬ s.readUnspecified r = true := fun hu => by
    obtain ⟨hrun, hn⟩ := (readUnspecified_iff hr).mp hu
    exact absurd (h hrun) (by omega)
  rw [hostRead, hr]
  exact if_neg hspec

theorem hostRead_midRun (hr : regOf n = some r) (hrun : s.Running) (hn : 0x20 ≤ n) :
    hostRead n s = { s with
      draws := s.draws + 1, replies := ⟨n, lowBits r.width (Config.midRunRead s.draws)⟩ :: s.replies } := by
  rw [hostRead, hr]
  exact if_pos ((readUnspecified_iff hr).mpr ⟨hrun, hn⟩)

end

theorem step_read {s : State} {n : Nat} {rest : List HostAct} (h : s.host = .read n :: rest) :
    step s = .next (hostRead n { s with host := rest }) := by rw [step, h]

/-- Settles O7: the register map of the obligation is the model's, register by register. -/
theorem hostReadReturnsTheRegister : Obligations.HostReadReturnsTheRegister := by
  unfold Obligations.HostReadReturnsTheRegister
  intro s rest n h
  rw [step_read h]
  refine ⟨fun width value hmem hn => ?_, fun hnone => ?_, fun width value hmem hrun hn => ?_⟩
  · obtain ⟨r, hr, -, rfl⟩ := (mem_registers_iff s n width value).mp hmem
    rw [hostRead_specified (s := { s with host := rest }) hr hn, value_host]
  · have hmap : regOf n = none := by
      refine Option.eq_none_iff_forall_ne_some.mpr fun r hr => ?_
      exact hnone _ ((mem_registers_iff s n r.width (r.value s)).mpr ⟨r, hr, rfl, rfl⟩) rfl
    rw [hostRead, hmap]
  · obtain ⟨r, hr, rfl, -⟩ := (mem_registers_iff s n width value).mp hmem
    exact ⟨_, lowBits_toNat r.width _, by rw [hostRead_midRun (s := { s with host := rest }) hr hrun hn]⟩

/-! ### A write (R59) -/

section
variable {s t : State} {n : Nat} {v : Word64}

theorem step_write {u : State} {rest : List HostAct} (h : s.host = .write n v :: rest)
    (hu : u = { s with host := rest }) : step s = writeStep n v u := by
  rw [step, h, hu]

theorem writeStep_now (h : hostWrite n v s = .now t) : writeStep n v s = .next t := by rw [writeStep, h]

theorem hostWrite_halted (hm : s.mode = .halted) : hostWrite n v s = .now (refuse .halted s) := if_pos hm

theorem hostWrite_running (h : s.Running) : hostWrite n v s = .now (busyWrite n v s) := by
  rw [hostWrite, if_neg h.2, if_pos h.1]

theorem hostWrite_idle (h : s.Idle) : hostWrite n v s = idleWrite n v s := by
  rw [hostWrite, if_neg h.2, if_neg (by simp [h.1])]

theorem busyWrite_other (hn : n ≠ 0x03) : busyWrite n v s = refuse .busy s :=
  if_neg fun h => hn ((regOf_eq_some_iff n .control).mp h).symm

theorem idleWrite_cmd : idleWrite 0x00 v s = cmdWrite v s := rfl

theorem idleWrite_unassigned (hn : regOf n = none) : idleWrite n v s = .now (refuse .badReg s) := by
  rw [idleWrite, hn]

/-- R59 lines 3 and 5: a register other than `CMD` is stored into, or is read-only. -/
theorem idleWrite_register {r : RegId} (hr : regOf n = some r) (hcmd : r ≠ .cmd) :
    idleWrite n v s = .now ((storeReg r v s).getD (refuse .badReg s)) := by
  rw [idleWrite, hr]
  cases r with
  | cmd => exact absurd rfl hcmd
  | _ => rfl

/-- R59 line 3: an index that is not `RW` is unassigned or read-only. -/
theorem idleWrite_not_writable (hn : ¬ Spec.writable n) : idleWrite n v s = .now (refuse .badReg s) := by
  cases hr : regOf n with
  | none => exact idleWrite_unassigned hr
  | some r =>
    have hwritable : ¬ Spec.writable r.index := (regOf_eq_some_iff n r).mp hr ▸ hn
    have hcmd : r ≠ .cmd := fun h => hwritable (.inl (h ▸ rfl))
    have hreadOnly : storeReg r v s = none := by
      cases r <;> first | rfl | exact absurd (by simp only [RegId.index, Spec.writable]; omega) hwritable
    rw [idleWrite_register hr hcmd, hreadOnly]
    rfl

theorem writeStep_running_other (hrun : s.Running) (hn : n ≠ 0x03) : writeStep n v s = .next (refuse .busy s) :=
  writeStep_now (by rw [hostWrite_running hrun, busyWrite_other hn])

theorem writeStep_not_writable (hidle : s.Idle) (hn : ¬ Spec.writable n) :
    writeStep n v s = .next (refuse .badReg s) :=
  writeStep_now (by rw [hostWrite_idle hidle, idleWrite_not_writable hn])

/-- R59 line 5: the value is stored. -/
theorem writeStep_stored (hidle : s.Idle) {r : RegId} (hn : n = r.index) (h : storeReg r v s = some t) :
    writeStep n v s = .next t := by
  have hcmd : r ≠ .cmd := by rintro rfl; cases h
  refine writeStep_now ((hostWrite_idle hidle).trans ?_)
  rw [idleWrite_register (hn ▸ regOf_index r) hcmd, h]
  rfl

/-- R59 line 4: a word for `CMD` that decodes is presented to the engine. -/
theorem writeStep_cmd_ok (hidle : s.Idle) {i : Instr} (hi : decode v = .ok i) : writeStep 0x00 v s = exec i s := by
  rw [writeStep, hostWrite_idle hidle, idleWrite_cmd, cmdWrite, hi]

/-- R59 line 4: the code of the refusal of a word that does not decode. -/
def rejectCode : Reject → ErrCode
  | .badOpcode => .badOpcode
  | .badParam => .badParam

theorem writeStep_cmd_error (hidle : s.Idle) {e : Reject} (he : decode v = .error e) :
    writeStep 0x00 v s = .next (refuse (rejectCode e) s) := by
  refine writeStep_now ((hostWrite_idle hidle).trans ?_)
  rw [idleWrite_cmd, cmdWrite, he]
  cases e <;> rfl

end

/-- Settles O6. -/
theorem hostWriteDecidedInOrder : Obligations.HostWriteDecidedInOrder := by
  unfold Obligations.HostWriteDecidedInOrder
  intro s u rest n v h hu
  rw [step_write h hu]
  subst hu
  refine ⟨fun hm => writeStep_now (hostWrite_halted hm), fun hrun hn => ?_,
    fun hrun hn => writeStep_running_other hrun hn, fun hidle hn => writeStep_not_writable hidle hn,
    fun hidle hn he => ?_, fun hidle hn he => ?_, fun i hidle hn hi => ?_,
    fun hidle hn => writeStep_stored (r := .control) hidle hn rfl,
    fun hidle hn => writeStep_stored (r := .regionStart) hidle hn rfl,
    fun hidle hn => writeStep_stored (r := .regionLength) hidle hn rfl,
    fun i hidle hn => writeStep_stored (r := .icRef i) hidle hn rfl,
    fun hidle hn => writeStep_stored (r := .cfgSettleDelay) hidle hn rfl,
    fun hidle hn => writeStep_stored (r := .cfgConfirmDelay) hidle hn rfl,
    fun hidle hn => writeStep_stored (r := .cfgConfirmLoops) hidle hn rfl,
    fun hidle hn => writeStep_stored (r := .cfgStuckPct) hidle hn rfl,
    fun hidle hn => writeStep_stored (r := .cfgXtPct) hidle hn rfl,
    fun hidle hn => writeStep_stored (r := .cfgActPct) hidle hn rfl,
    fun hidle hn => writeStep_stored (r := .cfgRetDelayMs) hidle hn rfl,
    fun hidle hn => writeStep_stored (r := .cfgRetRepeat) hidle hn rfl,
    fun hidle hn => writeStep_stored (r := .cfgRdReads) hidle hn rfl⟩
  · subst hn
    exact writeStep_now (hostWrite_running hrun)
  · subst hn
    exact writeStep_cmd_error (s := { s with host := rest }) hidle he
  · subst hn
    exact writeStep_cmd_error (s := { s with host := rest }) hidle he
  · subst hn
    exact writeStep_cmd_ok (s := { s with host := rest }) hidle hi

/-! ### What a step runs (R29, R127) -/

theorem engineStep_running {s : State} {i : Instr} (hrun : s.Running) (hi : decode s.lastcmd = .ok i) :
    engineStep s = exec i s := by
  rw [engineStep, if_neg hrun.2, if_pos hrun.1, hi]

theorem idleTurn_running {s : State} (hrun : s.Running) : idleTurn s = engineStep s := if_neg hrun.2

theorem engineStep_idle {s : State} (hidle : s.Idle) : engineStep s = .next s := by
  rw [engineStep, if_neg hidle.2, if_neg (by simp [hidle.1])]

theorem decode_tableWord {nbits w : Nat} {i : Instr} (h : decodeTableWord nbits w = some i) :
    decode (tableWord nbits w) = .ok i := by
  unfold decodeTableWord at h
  split at h
  · cases h; assumption
  · cases h

/-- Settles O13. -/
theorem stepRunsTheDecodedCommand : Obligations.StepRunsTheDecodedCommand := by
  unfold Obligations.StepRunsTheDecodedCommand
  refine ⟨fun s i w rest hidle hi => ?_, fun s i hrun hi => ?_, fun s i rest hrun hi => ?_,
    fun s nbits w i hidle hi => ?_, fun s hidle => engineStep_idle (s := { s with host := [] }) hidle⟩
  · rw [step_write rfl rfl]
    exact writeStep_cmd_ok (s := { s with host := rest }) hidle hi
  · exact engineStep_running (s := { s with host := [] }) hrun hi
  · exact (idleTurn_running (s := { s with host := rest }) hrun).trans
      (engineStep_running (s := { s with host := rest }) hrun hi)
  · rw [step_write (s := s.withFetchWord nbits w) rfl rfl]
    exact writeStep_cmd_ok hidle (decode_tableWord hi)

/-! ### STATUS (R28) -/

section
variable {n m : Nat} (v : BitVec n) (w : BitVec m) (b : Bool) (k l : Nat)

theorem getLsbD_append_bit_zero : (v ++ BitVec.ofBool b).getLsbD 0 = b := by
  rw [BitVec.getLsbD_append, if_pos Nat.zero_lt_one]
  cases b <;> rfl

theorem getLsbD_append_bit_succ : (v ++ BitVec.ofBool b).getLsbD (k + 1) = v.getLsbD k := by
  rw [BitVec.getLsbD_append, if_neg (by omega), Nat.add_sub_cancel]

theorem extractLsb'_append_high : (v ++ w).extractLsb' (k + m) l = v.extractLsb' k l := by
  rw [BitVec.extractLsb'_append_eq_of_le (by omega), Nat.add_sub_cancel]

end

/-- The fields of `STATUS` above its six flags. -/
def State.statusCodes (s : State) : BitVec 26 := 0#18 ++ s.fatal.code ++ s.err.code ++ 0#2

section
variable (s : State)

theorem status_flags : s.status.getLsbD 0 = s.busy ∧ s.status.getLsbD 1 = s.done ∧
    s.status.getLsbD 2 = s.haltOut ∧ s.status.getLsbD 3 = s.ownedBit ∧ s.status.getLsbD 4 = s.cancelled ∧
    s.status.getLsbD 5 = s.cancelReq := by
  refine ⟨getLsbD_append_bit_zero .., ?_, ?_, ?_, ?_, ?_⟩
  · exact (getLsbD_append_bit_succ _ _ 0).trans <| getLsbD_append_bit_zero ..
  · exact (getLsbD_append_bit_succ _ _ 1).trans <| (getLsbD_append_bit_succ _ _ 0).trans <|
      getLsbD_append_bit_zero ..
  · exact (getLsbD_append_bit_succ _ _ 2).trans <| (getLsbD_append_bit_succ _ _ 1).trans <|
      (getLsbD_append_bit_succ _ _ 0).trans <| getLsbD_append_bit_zero ..
  · exact (getLsbD_append_bit_succ _ _ 3).trans <| (getLsbD_append_bit_succ _ _ 2).trans <|
      (getLsbD_append_bit_succ _ _ 1).trans <| (getLsbD_append_bit_succ _ _ 0).trans <|
      getLsbD_append_bit_zero ..
  · exact (getLsbD_append_bit_succ _ _ 4).trans <| (getLsbD_append_bit_succ _ _ 3).trans <|
      (getLsbD_append_bit_succ _ _ 2).trans <| (getLsbD_append_bit_succ _ _ 1).trans <|
      (getLsbD_append_bit_succ _ _ 0).trans <| getLsbD_append_bit_zero ..

theorem status_codes (k l : Nat) : s.status.extractLsb' (k + 6) l = s.statusCodes.extractLsb' k l :=
  (extractLsb'_append_high _ (.ofBool s.busy) (k + 5) l).trans <|
  (extractLsb'_append_high _ (.ofBool s.done) (k + 4) l).trans <|
  (extractLsb'_append_high _ (.ofBool s.haltOut) (k + 3) l).trans <|
  (extractLsb'_append_high _ (.ofBool s.ownedBit) (k + 2) l).trans <|
  (extractLsb'_append_high _ (.ofBool s.cancelled) (k + 1) l).trans <|
  (extractLsb'_append_high _ (.ofBool s.cancelReq) k l)

theorem statusCodes_fields : s.statusCodes.extractLsb' 0 2 = 0#2 ∧ s.statusCodes.extractLsb' 2 4 = s.err.code ∧
    s.statusCodes.extractLsb' 6 2 = s.fatal.code ∧ s.statusCodes.extractLsb' 8 18 = 0#18 := by
  refine ⟨BitVec.extractLsb'_append_eq_right, ?_, ?_, ?_⟩
  · exact (extractLsb'_append_high _ 0#2 0 4).trans BitVec.extractLsb'_append_eq_right
  · exact (extractLsb'_append_high _ 0#2 4 2).trans <| (extractLsb'_append_high _ s.err.code 0 2).trans
      BitVec.extractLsb'_append_eq_right
  · exact (extractLsb'_append_high _ 0#2 6 18).trans <| (extractLsb'_append_high _ s.err.code 2 18).trans <|
      BitVec.extractLsb'_append_eq_left

end

/-- Settles O8: the fields of the packing one after another, the flags bit by bit. -/
theorem statusPacking : Obligations.StatusPacking := by
  unfold Obligations.StatusPacking
  refine ⟨fun s => ?_, rfl, rfl, rfl⟩
  obtain ⟨hbusy, hdone, hhalt, howned, hcancelled, hreq⟩ := status_flags s
  obtain ⟨hzero, herr, hfatal, hhigh⟩ := statusCodes_fields s
  have hhalt' : s.status.getLsbD 2 = true ↔ s.mode = .halted := by rw [hhalt, State.haltOut, decide_eq_true_eq]
  have howned' : s.status.getLsbD 3 = true ↔ s.mode = .owned := by rw [howned, State.ownedBit, decide_eq_true_eq]
  refine ⟨hbusy, hdone, hhalt', howned', hcancelled, hreq, (status_codes s 0 2).trans hzero,
    (status_codes s 2 4).trans herr, (status_codes s 6 2).trans hfatal, (status_codes s 8 18).trans hhigh, ?_⟩
  rw [← Bool.not_eq_true, ← Bool.not_eq_true, hhalt', howned']
  cases s.mode <;> simp

end Sys2Proof.Machine
end

section
/-! What a running command does not depend on (O44): states that differ in the trace so far, the chip labels, the
host's side, `ERR`, the pins or `ISSUES` take the same step. -/

namespace Sys2Proof.Machine
open Sys2Proof

/-- Other values for what no command reads: the trace so far, the labels, the host's side, `ERR`; and whether the
pins and `ISSUES` are others too. -/
structure Veil where
  trace : List Event
  icRef : Vector Word32 8
  host : List HostAct
  replies : List Reply
  draws : Nat
  err : ErrCode
  otherPins : Prop
  otherIssues : Prop

/-- The state `s` under the veil, `s`'s own trace counted from the veil's. -/
def Veil.over (v : Veil) (p : Pins) (j : BitVec 4) (s : State) : State :=
  { s with
    trace := s.trace ++ v.trace, icRef := v.icRef, host := v.host, replies := v.replies, draws := v.draws
    err := v.err, pins := p, res := { s.res with issues := j } }

/-- `s'` is `s` under the veil, with other pins or other `ISSUES` only where the veil says so. -/
def Alike (v : Veil) (s s' : State) : Prop :=
  ∃ p j, (v.otherPins ∨ p = s.pins) ∧ (v.otherIssues ∨ j = s.res.issues) ∧ s' = v.over p j s

section
variable {v : Veil} {s s' : State}

/-! ### What such states agree on -/

theorem Alike.eq_of {α : Type} (h : Alike v s s') (f : State → α) (hf : ∀ p j, f (v.over p j s) = f s) : f s' = f s := by
  obtain ⟨p, j, -, -, rfl⟩ := h
  exact hf p j

theorem Alike.seq (h : Alike v s s') : s'.seq = s.seq := h.eq_of State.seq fun _ _ => rfl
theorem Alike.work (h : Alike v s s') : s'.work = s.work := h.eq_of State.work fun _ _ => rfl
theorem Alike.cfg (h : Alike v s s') : s'.cfg = s.cfg := h.eq_of State.cfg fun _ _ => rfl
theorem Alike.cancelReq (h : Alike v s s') : s'.cancelReq = s.cancelReq := h.eq_of State.cancelReq fun _ _ => rfl
theorem Alike.sampling (h : Alike v s s') : s'.sampling = s.sampling := h.eq_of State.sampling fun _ _ => rfl
theorem Alike.readTrue (h : Alike v s s') : s'.readTrue = s.readTrue := h.eq_of State.readTrue fun _ _ => rfl
theorem Alike.mismatch (h : Alike v s s') : s'.mismatch = s.mismatch := h.eq_of State.mismatch fun _ _ => rfl
theorem Alike.confirmed (h : Alike v s s') (pct : BitVec 7) : s'.confirmed pct = s.confirmed pct :=
  h.eq_of (fun u => u.confirmed pct) fun _ _ => rfl
theorem Alike.busLine (h : Alike v s s') (b : Bus) : busLine b s' = busLine b s :=
  h.eq_of (Machine.busLine b) fun _ _ => rfl
theorem Alike.xtBaseline (h : Alike v s s') : s'.res.xtBaseline = s.res.xtBaseline :=
  h.eq_of (fun u => u.res.xtBaseline) fun _ _ => rfl

/-! ### What the operations do to them -/

/-- An operation that makes of the pins and of `ISSUES` a function of the ones before, and reads nothing else that
is veiled. -/
theorem Alike.map {f : State → State} (h : Alike v s s') (m : Pins → Pins) (n : BitVec 4 → BitVec 4)
    (hf : ∀ p j, f (v.over p j s) = v.over (m p) (n j) (f s)) (hp : (f s).pins = m s.pins)
    (hj : (f s).res.issues = n s.res.issues) : Alike v (f s) (f s') := by
  obtain ⟨p, j, hpins, hissues, rfl⟩ := h
  refine ⟨m p, n j, ?_, ?_, hf p j⟩
  · exact hpins.imp_right fun h => (congrArg m h).trans hp.symm
  · exact hissues.imp_right fun h => (congrArg n h).trans hj.symm

/-- An operation that leaves the pins and `ISSUES`. -/
theorem Alike.still {f : State → State} (h : Alike v s s') (hf : ∀ p j, f (v.over p j s) = v.over p j (f s))
    (hp : (f s).pins = s.pins) (hj : (f s).res.issues = s.res.issues) : Alike v (f s) (f s') :=
  h.map id id hf hp hj

@[gcongr] theorem alike_gotoOp (h : Alike v s s') (o : Nat) : Alike v (s.gotoOp o) (s'.gotoOp o) :=
  h.still (f := fun u => u.gotoOp o) (fun _ _ => rfl) rfl rfl
@[gcongr] theorem alike_gotoPhase (h : Alike v s s') (k l : Nat) : Alike v (s.gotoPhase k l) (s'.gotoPhase k l) :=
  h.still (f := fun u => u.gotoPhase k l) (fun _ _ => rfl) rfl rfl
@[gcongr] theorem alike_gotoPos (h : Alike v s s') (k o : Nat) : Alike v (s.gotoPos k o) (s'.gotoPos k o) :=
  h.still (f := fun u => u.gotoPos k o) (fun _ _ => rfl) rfl rfl
@[gcongr] theorem alike_setSeq (h : Alike v s s') (q : Seq) : Alike v (s.setSeq q) (s'.setSeq q) :=
  h.still (f := fun u => u.setSeq q) (fun _ _ => rfl) rfl rfl
@[gcongr] theorem alike_setWork (h : Alike v s s') (w : Work) : Alike v (s.setWork w) (s'.setWork w) :=
  h.still (f := fun u => u.setWork w) (fun _ _ => rfl) rfl rfl
@[gcongr] theorem alike_setMode (h : Alike v s s') (m : Mode) : Alike v (s.setMode m) (s'.setMode m) :=
  h.still (f := fun u => u.setMode m) (fun _ _ => rfl) rfl rfl
@[gcongr] theorem alike_raiseFatal (h : Alike v s s') (c : FatalCause) : Alike v (raiseFatal c s) (raiseFatal c s') :=
  h.still (f := raiseFatal c) (fun _ _ => rfl) rfl rfl
@[gcongr] theorem alike_complete (h : Alike v s s') : Alike v (complete s) (complete s') :=
  h.still (f := complete) (fun _ _ => rfl) rfl rfl
@[gcongr] theorem alike_completeCancelled (h : Alike v s s') : Alike v (completeCancelled s) (completeCancelled s') :=
  h.still (f := completeCancelled) (fun _ _ => rfl) rfl rfl
@[gcongr] theorem alike_phaseEnd (h : Alike v s s') (top : Bool) (j n : Nat) :
    Alike v (phaseEnd top j n s) (phaseEnd top j n s') :=
  h.still (f := phaseEnd top j n) (fun _ _ => by cases top <;> rfl) (by simp) (by simp)

/-! The reads, the delays and the confirmation loop leave the pins and `ISSUES`. -/

@[gcongr] theorem alike_ctlRead (h : Alike v s s') (g : Sig) : Alike v (ctlRead g s) (ctlRead g s') :=
  h.still (f := ctlRead g) (fun _ _ => rfl) rfl rfl
@[gcongr] theorem alike_busRead (h : Alike v s s') (b : Bus) : Alike v (busRead b s) (busRead b s') :=
  h.still (f := busRead b) (fun _ _ => by cases b <;> rfl) (by simp) (by simp)
@[gcongr] theorem alike_snapRead (h : Alike v s s') (k : Nat) : Alike v (snapRead k s) (snapRead k s') :=
  h.still (f := snapRead k) (fun _ _ => by unfold snapRead; split <;> rfl) (by simp) (by simp)
@[gcongr] theorem alike_settle (h : Alike v s s') : Alike v (settle s) (settle s') :=
  h.still (f := settle) (fun _ _ => rfl) rfl rfl
@[gcongr] theorem alike_confirmWait (h : Alike v s s') : Alike v (confirmWait s) (confirmWait s') :=
  h.still (f := confirmWait) (fun _ _ => rfl) rfl rfl
@[gcongr] theorem alike_startConfirm (h : Alike v s s') : Alike v (startConfirm s) (startConfirm s') :=
  h.still (f := startConfirm) (fun _ _ => rfl) rfl rfl
@[gcongr] theorem alike_countSample (h : Alike v s s') (hit : Bool) : Alike v (countSample hit s) (countSample hit s') :=
  h.still (f := countSample hit) (fun _ _ => rfl) rfl rfl
@[gcongr] theorem alike_enterLine (h : Alike v s s') (line width pos : Nat) :
    Alike v (enterLine line width pos s) (enterLine line width pos s') :=
  h.still (f := enterLine line width pos) (fun _ _ => by rw [enterLine_eq, enterLine_eq]; rfl) (by simp) (by simp)
@[gcongr] theorem alike_nextG (h : Alike v s s') (o : Nat) : Alike v (nextG o s) (nextG o s') := by
  unfold nextG
  rw [h.seq]
  split <;> gcongr
@[gcongr] theorem alike_markCand (h : Alike v s s') (g : Sig) : Alike v (markCand g s) (markCand g s') :=
  h.still (f := markCand g) (fun _ _ => rfl) rfl rfl
@[gcongr] theorem alike_markLow (h : Alike v s s') (g : Sig) : Alike v (markLow g s) (markLow g s') :=
  h.still (f := markLow g) (fun _ _ => rfl) rfl rfl

/-! The memory operations leave the pins and `ISSUES`. -/

@[gcongr] theorem alike_cellWrite (h : Alike v s s') (c : CellVal) : Alike v (cellWrite c s) (cellWrite c s') :=
  h.still (f := cellWrite c) (fun _ _ => by rw [cellWrite_eq, cellWrite_eq]; rfl) (by simp) (by simp)
@[gcongr] theorem alike_cellReadDiscard (h : Alike v s s') : Alike v (cellReadDiscard s) (cellReadDiscard s') :=
  h.still (f := cellReadDiscard) (fun _ _ => by rw [cellReadDiscard_eq, cellReadDiscard_eq]; rfl) (by simp) (by simp)
@[gcongr] theorem alike_cellFetch (h : Alike v s s') (c : CellVal) : Alike v (cellFetch c s) (cellFetch c s') :=
  h.still (f := cellFetch c) (fun _ _ => by rw [cellFetch_eq, cellFetch_eq]; rfl) (by simp) (by simp)
@[gcongr] theorem alike_rstopBegin (h : Alike v s s') : Alike v (rstopBegin s) (rstopBegin s') :=
  h.still (f := rstopBegin) (fun _ _ => by rw [rstopBegin_eq, rstopBegin_eq]; rfl) (by simp) (by simp)
@[gcongr] theorem alike_countRead (h : Alike v s s') : Alike v (countRead s) (countRead s') :=
  h.still (f := countRead) (fun _ _ => rfl) rfl rfl
@[gcongr] theorem alike_accumulate (h : Alike v s s') : Alike v (accumulate s) (accumulate s') :=
  h.still (f := accumulate) (fun _ _ => rfl) rfl rfl
@[gcongr] theorem alike_cellRead (h : Alike v s s') (c : CellVal) : Alike v (cellRead c s) (cellRead c s') :=
  alike_accumulate (alike_cellFetch h c)
@[gcongr] theorem alike_waitStep (h : Alike v s s') (ms : Nat) : Alike v (waitStep ms s) (waitStep ms s') :=
  h.still (f := waitStep ms) (fun _ _ => rfl) rfl rfl
@[gcongr] theorem alike_readAgain (h : Alike v s s') : Alike v (readAgain s) (readAgain s') :=
  h.still (f := readAgain) (fun _ _ => rfl) rfl rfl
@[gcongr] theorem alike_nextCell (h : Alike v s s') (d : PassDir) : Alike v (nextCell d s) (nextCell d s') :=
  h.still (f := nextCell d) (fun _ _ => rfl) rfl rfl
@[gcongr] theorem alike_nextOp (h : Alike v s s') (d : PassDir) (ops : List CellOp) :
    Alike v (nextOp d ops s) (nextOp d ops s') := by
  unfold nextOp
  rw [h.seq]
  split <;> gcongr
@[gcongr] theorem alike_enterPhase (h : Alike v s s') (phases : List MemPhase) (j : Nat) :
    Alike v (enterPhase phases j s) (enterPhase phases j s') :=
  h.still (f := enterPhase phases j) (fun _ _ => by rw [enterPhase_eq, enterPhase_eq]; rfl) (by simp) (by simp)
@[gcongr] theorem alike_loadPattern (h : Alike v s s') (pat : Option Byte) :
    Alike v (loadPattern pat s) (loadPattern pat s') :=
  h.still (f := loadPattern pat) (fun _ _ => rfl) rfl rfl
@[gcongr] theorem alike_clearTr (h : Alike v s s') : Alike v (clearTr s) (clearTr s') :=
  h.still (f := clearTr) (fun _ _ => rfl) rfl rfl

/-! Also the steps of the composites. -/

@[gcongr] theorem alike_callRecorded (h : Alike v s s') : Alike v (callRecorded s) (callRecorded s') :=
  h.still (f := callRecorded) (fun _ _ => rfl) rfl rfl
@[gcongr] theorem alike_writeFaultyMask (h : Alike v s s') : Alike v (writeFaultyMask s) (writeFaultyMask s') :=
  h.still (f := writeFaultyMask) (fun _ _ => rfl) rfl rfl
@[gcongr] theorem alike_suitePrologue (h : Alike v s s') : Alike v (suitePrologue s) (suitePrologue s') :=
  h.still (f := suitePrologue) (fun _ _ => rfl) rfl rfl
@[gcongr] theorem alike_enterStage (h : Alike v s s') (st : Nat) : Alike v (enterStage st s) (enterStage st s') :=
  h.still (f := enterStage st) (fun _ _ => rfl) rfl rfl
@[gcongr] theorem alike_abandonPass (h : Alike v s s') : Alike v (abandonPass s) (abandonPass s') :=
  h.still (f := abandonPass) (fun _ _ => rfl) rfl rfl

/-! The operations on a pin make of the pins a function of the pins. -/

@[gcongr] theorem alike_dataDir (h : Alike v s s') (d : Dir) : Alike v (dataDir d s) (dataDir d s') :=
  h.map (f := dataDir d) (fun p => { p with dataDir := d }) id (fun _ _ => rfl) rfl rfl
@[gcongr] theorem alike_dataWrite (h : Alike v s s') (w : Byte) : Alike v (dataWrite w s) (dataWrite w s') :=
  h.map (f := dataWrite w) (fun p => { p with dataOut := w }) id (fun _ _ => rfl) rfl rfl
@[gcongr] theorem alike_addrDir (h : Alike v s s') (d : Dir) : Alike v (addrDir d s) (addrDir d s') :=
  h.map (f := addrDir d) (fun p => { p with addrDir := d }) id (fun _ _ => rfl) rfl rfl
@[gcongr] theorem alike_addrWrite (h : Alike v s s') (w : Addr) : Alike v (addrWrite w s) (addrWrite w s') :=
  h.map (f := addrWrite w) (fun p => { p with addrOut := w }) id (fun _ _ => rfl) rfl rfl
@[gcongr] theorem alike_ctlDir (h : Alike v s s') (g : Sig) (d : Dir) : Alike v (ctlDir g d s) (ctlDir g d s') :=
  h.map (f := ctlDir g d) (fun p => { p with ctlDir := p.ctlDir.set g.idx.val d g.idx.isLt }) id (fun _ _ => rfl) rfl rfl
@[gcongr] theorem alike_ctlWrite (h : Alike v s s') (g : Sig) (b : Bool) : Alike v (ctlWrite g b s) (ctlWrite g b s') :=
  h.map (f := ctlWrite g b) (fun p => { p with ctlOut := p.ctlOut.set g.idx.val b g.idx.isLt }) id (fun _ _ => rfl) rfl rfl
@[gcongr] theorem alike_busDir (h : Alike v s s') (b : Bus) (d : Dir) : Alike v (busDir b d s) (busDir b d s') := by
  cases b
  · exact alike_dataDir h d
  · exact alike_addrDir h d
@[gcongr] theorem alike_busWrite (h : Alike v s s') (b : Bus) (w : BitVec 16) :
    Alike v (busWrite b w s) (busWrite b w s') := by
  cases b
  · exact alike_dataWrite h _
  · exact alike_addrWrite h _
@[gcongr] theorem alike_driveFirst (h : Alike v s s') (p : Nat) : Alike v (driveFirst p s) (driveFirst p s') := by
  unfold driveFirst
  split <;> gcongr
@[gcongr] theorem alike_driveSecond (h : Alike v s s') (p : Nat) : Alike v (driveSecond p s) (driveSecond p s') := by
  unfold driveSecond
  split <;> gcongr
@[gcongr] theorem alike_releaseFirst (h : Alike v s s') (p : Nat) : Alike v (releaseFirst p s) (releaseFirst p s') := by
  unfold releaseFirst
  split <;> gcongr
@[gcongr] theorem alike_releaseSecond (h : Alike v s s') (p : Nat) : Alike v (releaseSecond p s) (releaseSecond p s') := by
  unfold releaseSecond
  split <;> gcongr

/-! The records with a flag make of `ISSUES` a function of `ISSUES` (R44). -/

@[gcongr] theorem alike_writeBusRecord (h : Alike v s s') (b : Bus) (high low : BitVec 16) :
    Alike v (writeBusRecord b high low s) (writeBusRecord b high low s') := by
  cases b
  · exact h.map (f := writeBusRecord .data high low) id
      (fun j => setBitTo j issueData (FaultRecord.hasIssues (⟨high.setWidth 8, low.setWidth 8⟩ : FaultRecord 8)))
      (fun _ _ => rfl) rfl rfl
  · exact h.map (f := writeBusRecord .address high low) id
      (fun j => setBitTo j issueAddr (FaultRecord.hasIssues (⟨high, low⟩ : FaultRecord 16))) (fun _ _ => rfl) rfl rfl
@[gcongr] theorem alike_writeCtrlRecord (h : Alike v s s') (high low : BitVec 12) :
    Alike v (writeCtrlRecord high low s) (writeCtrlRecord high low s') :=
  h.map (f := writeCtrlRecord high low) id
    (fun j => setBitTo j issueCtrl (FaultRecord.hasIssues (⟨high, low⟩ : FaultRecord 12))) (fun _ _ => rfl) rfl rfl
@[gcongr] theorem alike_writeXt (h : Alike v s s') (src dst : Word64) :
    Alike v (writeXt src dst s) (writeXt src dst s') :=
  h.map (f := writeXt src dst) id (fun j => setBitTo j issueXt (crosstalkIssues src)) (fun _ _ => rfl) rfl rfl
@[gcongr] theorem alike_clearResults (h : Alike v s s') : Alike v (clearResults s) (clearResults s') :=
  h.map (f := clearResults) id (fun _ => Results.zero.issues) (fun _ _ => rfl) rfl rfl

end

end Sys2Proof.Machine
end

section
/-! Every body takes the same step in states alike (O44). -/

namespace Sys2Proof.Machine
open Sys2Proof

/-- Two steps of bodies come to states alike in the same way. -/
inductive AlikeStep (v : Veil) : BodyStep → BodyStep → Prop
  | more {s s' : State} (h : Alike v s s') : AlikeStep v (.more s) (.more s')
  | ended {s s' : State} (h : Alike v s s') : AlikeStep v (.ended s) (.ended s')
  | cancelled {s s' : State} (h : Alike v s s') : AlikeStep v (.cancelled s) (.cancelled s')
  | fatal {s s' : State} (h : Alike v s s') : AlikeStep v (.fatal s) (.fatal s')

section
variable {v : Veil} {s s' : State}

theorem alike_finish {r r' : BodyStep} (h : AlikeStep v r r') : Alike v (finish r) (finish r') := by
  cases h with
  | more h | fatal h => exact h
  | ended h => exact alike_complete h
  | cancelled h => exact alike_completeCancelled h

theorem AlikeStep.ite {c : Prop} [Decidable c] {r r' q q' : BodyStep} (h : AlikeStep v r r') (g : AlikeStep v q q') :
    AlikeStep v (if c then r else q) (if c then r' else q') := by
  split
  · exact h
  · exact g

/-! ### The stuck-at tester -/

theorem alike_verifyDriveLow (h : Alike v s s') (b : Bus) (top : Bool) :
    Alike v (verifyDriveLow b top s) (verifyDriveLow b top s') := by
  have hread := alike_busRead h b
  unfold verifyDriveLow
  rw [h.seq]
  split
  case h_4 => dsimp only; rw [hread.work]; gcongr
  all_goals gcongr

theorem alike_verifyNextLine (h : Alike v s s') (b : Bus) :
    Alike v (verifyNextLine b s) (verifyNextLine b s') := by
  unfold verifyNextLine
  rw [h.seq, h.busLine]
  gcongr

theorem alike_verifyDecide (h : Alike v s s') (b : Bus) : Alike v (verifyDecide b s) (verifyDecide b s') := by
  unfold verifyDecide
  rw [h.confirmed, h.cfg, h.work, h.busLine]
  split <;> exact alike_verifyNextLine (by gcongr) b

theorem alike_verifyConfirm (h : Alike v s s') (b : Bus) (top : Bool) :
    Alike v (verifyConfirm b top s) (verifyConfirm b top s') := by
  have hread := alike_busRead h b
  unfold verifyConfirm
  rw [h.seq, h.busLine, h.work, h.sampling]
  split
  · split_ifs
    · gcongr
    · exact alike_verifyNextLine h b
    · gcongr
    · exact alike_verifyDecide h b
  · dsimp only; rw [hread.work]; gcongr

theorem alike_verifyDriveHigh (h : Alike v s s') (b : Bus) (top : Bool) :
    Alike v (verifyDriveHigh b top s) (verifyDriveHigh b top s') := by
  have hread := alike_busRead h b
  unfold verifyDriveHigh
  rw [h.seq]
  split
  case h_3 => dsimp only; rw [hread.work]; gcongr
  all_goals gcongr

theorem alike_verifyCleanup (h : Alike v s s') (b : Bus) : AlikeStep v (verifyCleanup b s) (verifyCleanup b s') := by
  unfold verifyCleanup
  rw [h.seq, h.work]
  split
  · exact .more (by gcongr)
  · exact .more (by gcongr)
  · exact .ended (by gcongr)

theorem alike_verifyBusBody (h : Alike v s s') (b : Bus) (top : Bool) :
    AlikeStep v (verifyBusBody b top s) (verifyBusBody b top s') := by
  unfold verifyBusBody
  rw [h.seq]
  split
  · exact .more (by gcongr)
  · exact .more (alike_verifyDriveLow h b top)
  · exact .more (alike_verifyConfirm h b top)
  · exact .more (alike_verifyDriveHigh h b top)
  · exact alike_verifyCleanup h b

theorem alike_ctrlDriveLow (h : Alike v s s') (top : Bool) : Alike v (ctrlDriveLow top s) (ctrlDriveLow top s') := by
  unfold ctrlDriveLow
  rw [h.seq]
  split
  case h_4 => dsimp only; split <;> gcongr
  all_goals gcongr

theorem alike_ctrlNextLine (h : Alike v s s') : Alike v (ctrlNextLine s) (ctrlNextLine s') := by
  unfold ctrlNextLine
  rw [h.seq]
  gcongr

theorem alike_ctrlDecide (h : Alike v s s') : Alike v (ctrlDecide s) (ctrlDecide s') := by
  unfold ctrlDecide
  rw [h.confirmed, h.cfg, h.work, h.seq]
  split <;> exact alike_ctrlNextLine (by gcongr)

theorem alike_ctrlConfirm (h : Alike v s s') (top : Bool) : Alike v (ctrlConfirm top s) (ctrlConfirm top s') := by
  unfold ctrlConfirm
  rw [h.seq, h.work, h.sampling]
  split
  · split_ifs
    · gcongr
    · exact alike_ctrlNextLine h
    · gcongr
    · exact alike_ctrlDecide h
  · have hread := alike_ctlRead h (sigG s.seq.posk)
    dsimp only; rw [hread.readTrue]; gcongr

theorem alike_ctrlDriveHigh (h : Alike v s s') (top : Bool) :
    Alike v (ctrlDriveHigh top s) (ctrlDriveHigh top s') := by
  unfold ctrlDriveHigh
  rw [h.seq]
  split
  case h_3 | h_7 | h_8 => dsimp only; split <;> gcongr
  all_goals gcongr

theorem alike_ctrlPrologue (h : Alike v s s') : Alike v (ctrlPrologue s) (ctrlPrologue s') := by
  have hrecord := alike_writeCtrlRecord h 0#12 0#12
  unfold ctrlPrologue
  dsimp only
  rw [hrecord.work]
  gcongr

theorem alike_verifyCtrlBody (h : Alike v s s') (top : Bool) :
    AlikeStep v (verifyCtrlBody top s) (verifyCtrlBody top s') := by
  unfold verifyCtrlBody
  rw [h.seq]
  split
  · exact .more (alike_ctrlPrologue h)
  · exact .more (alike_ctrlDriveLow h top)
  · exact .more (alike_ctrlConfirm h top)
  · exact .more (alike_ctrlDriveHigh h top)
  · unfold ctrlCleanup
    rw [h.seq, h.work]
    split
    · exact .more (by gcongr)
    · exact .ended (by gcongr)

/-! ### SAMPLE, CROSSTALK, and the activation -/

theorem alike_sampleBody (h : Alike v s s') : AlikeStep v (sampleBody s) (sampleBody s') := by
  unfold sampleBody
  rw [h.seq, h.work]
  split
  · exact .more (by gcongr)
  · exact .ended (h.still (f := fun u => u.setRes { u.res with snap := s.work.cur }) (fun _ _ => rfl) rfl rfl)

theorem alike_enterPosition (h : Alike v s s') (j : Nat) : Alike v (enterPosition j s) (enterPosition j s') :=
  alike_gotoPhase h _ _

theorem alike_xtPrologue (h : Alike v s s') : Alike v (xtPrologue s) (xtPrologue s') := by
  unfold xtPrologue
  rw [h.seq, h.work]
  split_ifs
  · gcongr
  · gcongr
  · exact alike_enterPosition (alike_setWork
      (h.still (f := fun u => u.setRes { u.res with xtBaseline := s.work.cur }) (fun _ _ => rfl) rfl rfl) _) 0

theorem alike_xtTrigger (h : Alike v s s') : Alike v (xtTrigger s) (xtTrigger s') := by
  unfold xtTrigger
  rw [h.seq, h.work, h.xtBaseline]
  dsimp only
  split <;> gcongr

theorem alike_xtDecide (h : Alike v s s') : Alike v (xtDecide s) (xtDecide s') := by
  unfold xtDecide
  rw [h.confirmed, h.cfg, h.work, h.seq]
  split <;> gcongr

theorem alike_xtSample (h : Alike v s s') : Alike v (xtSample s) (xtSample s') := by
  have hread := alike_snapRead h 13
  unfold xtSample
  dsimp only
  rw [hread.work, hread.xtBaseline, hread.seq]
  gcongr

theorem alike_xtNext (h : Alike v s s') (top : Bool) : AlikeStep v (xtNext top s) (xtNext top s') := by
  unfold xtNext
  rw [h.seq, h.work]
  split
  · exact .more (alike_enterPosition (by gcongr) _)
  · exact .ended (by gcongr)

theorem alike_xtPosition (h : Alike v s s') (top : Bool) :
    AlikeStep v (xtPosition top s) (xtPosition top s') := by
  unfold xtPosition
  rw [h.seq, h.work, h.cancelReq, h.sampling]
  refine .ite (.ite (.cancelled (by gcongr)) (.more (by gcongr))) <| .ite (.more (by gcongr)) <|
    .ite (.more (by gcongr)) <| .ite (.more (by gcongr)) <| .ite (.more (alike_xtTrigger h)) <|
    .ite (.more ?_) <| .ite (.more (by gcongr)) <| .ite (.more (alike_xtSample h)) <| .ite (.more (by gcongr)) <|
    .ite (.more (by gcongr)) (alike_xtNext h top)
  split
  · gcongr
  · exact alike_xtDecide h

theorem alike_crosstalkBody (h : Alike v s s') (top : Bool) :
    AlikeStep v (crosstalkBody top s) (crosstalkBody top s') := by
  unfold crosstalkBody
  rw [h.seq]
  split
  · exact .more (alike_xtPrologue h)
  · exact alike_xtPosition h top

theorem alike_activateBody (h : Alike v s s') : AlikeStep v (activateBody s) (activateBody s') := by
  have hread := alike_ctlRead h .test
  unfold activateBody
  rw [h.seq, h.readTrue, h.sampling, h.cfg, h.confirmed]
  split
  · exact .more (by gcongr)
  · exact .more (by gcongr)
  · split
    · exact .fatal (by gcongr)
    · exact .more (by gcongr)
  · exact .more (by gcongr)
  · split_ifs
    · exact .more (by gcongr)
    · exact .ended (by gcongr)
    · exact .fatal (by gcongr)
  · exact .more (by rw [hread.readTrue]; gcongr)

theorem alike_deactivateBody (h : Alike v s s') : AlikeStep v (deactivateBody s) (deactivateBody s') := by
  have hread := alike_ctlRead h .test
  unfold deactivateBody
  rw [h.seq, h.sampling, h.cfg, h.confirmed]
  split
  · exact .more (by gcongr)
  · split_ifs
    · exact .more (by gcongr)
    · exact .more (by gcongr)
    · exact .fatal (by gcongr)
  · exact .more (by rw [hread.readTrue]; gcongr)
  · exact .ended (by gcongr)

/-! ### The memory algorithms and the composites -/

theorem alike_rstopTurn (h : Alike v s s') (d : PassDir) (ops : List CellOp) (c : CellVal) (n : Nat) :
    Alike v (rstopTurn d ops c n s) (rstopTurn d ops c n s') := by
  have hbegin := alike_rstopBegin h
  have hread := alike_countRead (alike_cellFetch hbegin c)
  unfold rstopTurn
  dsimp only
  rw [hbegin.work, hread.mismatch]
  split_ifs
  · gcongr
  · gcongr
  · gcongr

theorem alike_passStep (h : Alike v s s') (d : PassDir) (ops : List CellOp) :
    Alike v (passStep d ops s) (passStep d ops s') := by
  unfold passStep cellOp
  rw [h.seq]
  split
  · split
    case h_4 => exact alike_rstopTurn h ..
    all_goals gcongr
  · gcongr

theorem alike_endPhase (h : Alike v s s') (top : Bool) (phases : List MemPhase) (j : Nat) :
    AlikeStep v (endPhase top phases j s) (endPhase top phases j s') := by
  unfold endPhase
  split
  · exact .more (by gcongr)
  · exact .ended (by gcongr)

theorem alike_memBody (h : Alike v s s') (top : Bool) (pat : Option Byte) (phases : List MemPhase) :
    AlikeStep v (memBody top pat phases s) (memBody top pat phases s') := by
  unfold memBody
  rw [h.seq, h.work]
  split
  · exact .more (by gcongr)
  split
  · exact .ended h
  · split
    · exact .more (alike_passStep h ..)
    · exact alike_endPhase h ..
  · split
    · exact .more (by gcongr)
    · exact alike_endPhase h ..

theorem alike_memAlgorithmBody (h : Alike v s s') (i : Instr) :
    AlikeStep v (memAlgorithmBody i s) (memAlgorithmBody i s') := by
  cases hrow : memTable i with
  | none => simp only [memAlgorithmBody_of_none hrow]; exact .ended h
  | some row => simp only [memAlgorithmBody_of_memTable hrow]; exact alike_memBody h ..

theorem alike_endCall (h : Alike v s s') (top : Bool) : AlikeStep v (endCall top s) (endCall top s') := by
  change AlikeStep v
    (if s.seq.call + 1 < Config.suiteCalls then
      .more ((phaseEnd top (s.seq.call + 1) Config.suiteCalls (callRecorded s)).setSeq
        { s.seq with call := s.seq.call + 1, phase := 0, op := 1 })
      else .ended (writeFaultyMask (phaseEnd top 1 1 (callRecorded s))))
    (if s'.seq.call + 1 < Config.suiteCalls then
      .more ((phaseEnd top (s'.seq.call + 1) Config.suiteCalls (callRecorded s')).setSeq
        { s'.seq with call := s'.seq.call + 1, phase := 0, op := 1 })
      else .ended (writeFaultyMask (phaseEnd top 1 1 (callRecorded s'))))
  rw [h.seq]
  split
  · exact .more (by gcongr)
  · exact .ended (by gcongr)

theorem alike_suiteBody (h : Alike v s s') (top : Bool) : AlikeStep v (suiteBody top s) (suiteBody top s') := by
  have hcall := alike_memAlgorithmBody h (suiteCall s.cfg s.seq.call)
  unfold suiteBody callStep
  rw [h.seq, h.cancelReq, h.cfg]
  split_ifs
  · exact .more (by gcongr)
  · exact .cancelled (by gcongr)
  · generalize memAlgorithmBody _ s = r, memAlgorithmBody _ s' = r' at hcall
    cases hcall with
    | more h => exact .more h
    | ended h => exact alike_endCall h top
    | cancelled h => exact .cancelled h
    | fatal h => exact .fatal h

theorem alike_primitive (h : Alike v s s') {i : Instr} (hi : i ≠ .fullpass) (top : Bool) :
    AlikeStep v (bodyIn top i s) (bodyIn top i s') := by
  cases hrow : memTable i with
  | some row => rw [bodyIn_of_memTable hrow]; exact alike_memBody h ..
  | none =>
    cases i with
    | nop => exact .ended h
    | clear => exact .ended (alike_clearResults h)
    | activate => exact alike_activateBody h
    | deactivate => exact alike_deactivateBody h
    | verifyData | verifyAddr => exact alike_verifyBusBody h ..
    | verifyCtrl => exact alike_verifyCtrlBody h top
    | sample => exact alike_sampleBody h
    | crosstalk => exact alike_crosstalkBody h top
    | suite => exact alike_suiteBody h top
    | fullpass => exact absurd rfl hi
    | _ => cases hrow

theorem alike_fullpassBody (h : Alike v s s') : AlikeStep v (fullpassBody s) (fullpassBody s') := by
  unfold fullpassBody stageStep
  rw [h.seq, h.work, h.cancelReq]
  split
  · exact .more (by gcongr)
  case isFalse hst =>
    split
    · exact .more (by gcongr)
    · rw [stageBody_eq_bodyIn hst]
      have hstage := alike_primitive h (stageCommand_ne_fullpass s.seq.stage) false
      generalize bodyIn false _ s = r, bodyIn false _ s' = r' at hstage
      cases hstage with
      | more h => exact .more h
      | ended h =>
        dsimp only
        rw [h.work]
        split_ifs
        · exact .more (by gcongr)
        · exact .cancelled h
        · exact .ended h
      | cancelled h => exact .more (by gcongr)
      | fatal h => exact .fatal h

theorem alike_bodyOf (h : Alike v s s') (i : Instr) : AlikeStep v (bodyOf i s) (bodyOf i s') := by
  rw [bodyOf_eq_bodyIn]
  by_cases hi : i = .fullpass
  · subst hi
    exact alike_fullpassBody h
  · exact alike_primitive h hi true

/-! ### O44 -/

theorem Alike.eq_over (h : Alike v s s') (hpins : ¬ v.otherPins) (hissues : ¬ v.otherIssues) :
    s' = v.over s.pins s.res.issues s := by
  obtain ⟨p, j, hp, hj, rfl⟩ := h
  rw [hp.resolve_left hpins, hj.resolve_left hissues]

/-- The state with the trace counted from here. -/
def State.bare (s : State) : State := { s with trace := [] }

/-- What `s` itself has behind the veil. -/
def State.veil (s : State) : Veil :=
  { trace := s.trace, icRef := s.icRef, host := s.host, replies := s.replies, draws := s.draws, err := s.err
    otherPins := False, otherIssues := False }

/-- A running command takes the step of `s` from every state that differs from `s` behind a veil alone. -/
theorem exec_alike {i : Instr} (hb : s.busy = true) (hm : s.mode ≠ .halted) (h : Alike v s.bare s') :
    ∃ t, exec i s' = .next t ∧ Alike v (finish (bodyOf i s.bare)) t := by
  have hb' : s'.busy = true := (h.eq_of State.busy fun _ _ => rfl).trans hb
  have hm' : s'.mode ≠ .halted := fun hh => hm ((h.eq_of State.mode fun _ _ => rfl).symm.trans hh)
  exact ⟨_, exec_running hb' hm', alike_finish (alike_bodyOf h i)⟩

end

/-- Settles O44. -/
theorem decidesOnNothingElse : Obligations.DecidesOnNothingElse := by
  unfold Obligations.DecidesOnNothingElse
  intro i s t hb h
  have hm : s.mode ≠ .halted := (exec_next h).1
  generalize hu : finish (bodyOf i s.bare) = u
  have run {v : Veil} {s' : State} (h : Alike v s.bare s') : ∃ t', exec i s' = .next t' ∧ Alike v u t' :=
    hu ▸ exec_alike hb hm h
  have same {v : Veil} {s' : State} (hpins : ¬ v.otherPins) (hissues : ¬ v.otherIssues)
      (h : s' = v.over s.bare.pins s.bare.res.issues s.bare) :
      exec i s' = .next (v.over u.pins u.res.issues u) := by
    obtain ⟨t', hexec, halike⟩ := run (v := v) ⟨_, _, .inr rfl, .inr rfl, h⟩
    rw [hexec, halike.eq_over hpins hissues]
  have ht : t = s.veil.over u.pins u.res.issues u := by
    have hown := same (v := s.veil) (s' := s) id id rfl
    rw [h] at hown
    cases hown
    rfl
  have htrace : t.trace.take (t.trace.length - s.trace.length) = u.trace := by
    rw [ht]
    change (u.trace ++ s.trace).take ((u.trace ++ s.trace).length - s.trace.length) = u.trace
    rw [List.length_append, Nat.add_sub_cancel, List.take_left]
  refine ⟨fun trace => ?_, fun icRef => ?_, fun host replies draws => ?_, fun err => ?_, fun pins => ?_,
    fun issues => ?_⟩
  · rw [htrace, ht]
    exact same (v := { s.veil with trace := trace }) id id rfl
  · rw [ht]
    exact same (v := { s.veil with icRef := icRef }) id id rfl
  · rw [ht]
    exact same (v := { s.veil with host := host, replies := replies, draws := draws }) id id rfl
  · rw [ht]
    exact same (v := { s.veil with err := err }) id id rfl
  · obtain ⟨t', hexec, p, j, -, hj, rfl⟩ := run (v := { s.veil with otherPins := True })
      (s' := { s with pins := pins }) ⟨pins, s.res.issues, .inl trivial, .inr rfl, rfl⟩
    refine ⟨p, ?_⟩
    rw [hexec, hj.resolve_left id, ht]
    rfl
  · obtain ⟨t', hexec, p, j, hp, -, rfl⟩ := run (v := { s.veil with otherIssues := True })
      (s' := { s with res := { s.res with issues := issues } }) ⟨s.pins, issues, .inr rfl, .inl trivial, rfl⟩
    refine ⟨j, ?_⟩
    rw [hexec, hp.resolve_left id, ht]
    rfl

end Sys2Proof.Machine
end

section
/-! SUPPORT. Which operation a step of a body issues (R81, R99): the bodies of the commands that are no memory
algorithm against the operations their rules name. -/

namespace Sys2Proof.Machine
open Sys2Proof

/-- R99: no operation, or one that has `P`. -/
inductive Issues (P : Event → Prop) (a b : Io) : Prop
  | silent (h : b.trace = a.trace)
  | event (e : Event) (he : P e) (h : b.trace = e :: a.trace)

@[simp] theorem issues_refl (P : Event → Prop) (a : Io) : Issues P a a := .silent rfl

theorem Issues.mono {P Q : Event → Prop} {a b : Io} (h : Issues P a b) (hPQ : ∀ e, P e → Q e) : Issues Q a b := by
  cases h with
  | silent h => exact .silent h
  | event e he h => exact .event e (hPQ e he) h

theorem Issues.of_cons {P : Event → Prop} {a b : Io} (h : Issues P a b) {e : Event}
    (he : b.trace = e :: a.trace) : P e := by
  cases h with
  | silent h => exact absurd (he.symm.trans h) (List.cons_ne_self _ _)
  | event e' he' h =>
    obtain ⟨rfl, -⟩ := List.cons.inj (h.symm.trans he)
    exact he'

theorem IoStep.issues {P : Event → Prop} {a b : Io} (h : IoStep a b) (hP : ∀ e, P e) : Issues P a b := by
  cases h with
  | silent => exact .silent rfl
  | operation e | read e => exact .event e (hP e) rfl

/-! ### The operations -/

section
variable {P : Event → Prop} (s : State)

@[simp] theorem dataDir_issues {d : Dir} (h : P (.dataDir d)) : Issues P s.io (dataDir d s).io := .event _ h rfl
@[simp] theorem dataWrite_issues {v : Byte} (h : P (.dataWrite v)) : Issues P s.io (dataWrite v s).io :=
  .event _ h rfl
@[simp] theorem addrDir_issues {d : Dir} (h : P (.addrDir d)) : Issues P s.io (addrDir d s).io := .event _ h rfl
@[simp] theorem addrWrite_issues {v : Addr} (h : P (.addrWrite v)) : Issues P s.io (addrWrite v s).io :=
  .event _ h rfl
@[simp] theorem ctlDir_issues {g : Sig} {d : Dir} (h : P (.ctlDir g d)) : Issues P s.io (ctlDir g d s).io :=
  .event _ h rfl
@[simp] theorem ctlWrite_issues {g : Sig} {b : Bool} (h : P (.ctlWrite g b)) : Issues P s.io (ctlWrite g b s).io :=
  .event _ h rfl
@[simp] theorem dataRead_issues (h : ∀ v, P (.dataRead v)) : Issues P s.io (dataRead s).io := .event _ (h _) rfl
@[simp] theorem addrRead_issues (h : ∀ v, P (.addrRead v)) : Issues P s.io (addrRead s).io := .event _ (h _) rfl
@[simp] theorem ctlRead_issues {g : Sig} (h : ∀ b, P (.ctlRead g b)) : Issues P s.io (ctlRead g s).io :=
  .event _ (h _) rfl
@[simp] theorem settle_issues (h : ∀ n, P (.delay n)) : Issues P s.io (settle s).io := .event _ (h _) rfl
@[simp] theorem confirmWait_issues (h : ∀ n, P (.delay n)) : Issues P s.io (confirmWait s).io := .event _ (h _) rfl

@[simp] theorem busDir_issues (b : Bus) (d : Dir) : Issues (Spec.mayIssue b.command) s.io (busDir b d s).io := by
  cases b
  · exact dataDir_issues s trivial
  · exact addrDir_issues s trivial
@[simp] theorem busWrite_issues (b : Bus) (v : BitVec 16) :
    Issues (Spec.mayIssue b.command) s.io (busWrite b v s).io := by
  cases b
  · exact dataWrite_issues s trivial
  · exact addrWrite_issues s trivial
@[simp] theorem busRead_issues (b : Bus) : Issues (Spec.mayIssue b.command) s.io (busRead b s).io := by
  cases b
  · exact dataRead_issues s fun _ => trivial
  · exact addrRead_issues s fun _ => trivial
@[simp] theorem bus_mayIssue_delay (b : Bus) (n : Nat) : Spec.mayIssue b.command (.delay n) := by
  cases b <;> trivial

/-- R182: a read of a snapshot. -/
theorem snapRead_issues (k : Nat) (haddr : ∀ v, P (.addrRead v)) (hdata : ∀ v, P (.dataRead v))
    (hctl : ∀ g b, P (.ctlRead g b)) : Issues P s.io (snapRead k s).io := by
  unfold snapRead
  split
  · exact .event _ (haddr _) rfl
  · exact .event _ (hdata _) rfl
  · exact .event _ (hctl _ _) rfl

@[simp] theorem snapRead_issues_sample (k : Nat) : Issues (Spec.mayIssue .sample) s.io (snapRead k s).io :=
  snapRead_issues s k (fun _ => trivial) (fun _ => trivial) fun _ _ => trivial
@[simp] theorem snapRead_issues_crosstalk (k : Nat) : Issues (Spec.mayIssue .crosstalk) s.io (snapRead k s).io :=
  snapRead_issues s k (fun _ => trivial) (fun _ => trivial) fun _ _ => trivial

theorem sigW_cases (k : Nat) : sigW k = .int ∨ sigW k = .wait := by
  unfold sigW
  split <;> simp

@[simp] theorem sigG_ctlDir (k : Nat) (d : Dir) : Spec.mayIssue .verifyCtrl (.ctlDir (sigG k) d) :=
  .inl (sigG_idx_le k)
@[simp] theorem sigG_ctlWrite (k : Nat) (b : Bool) : Spec.mayIssue .verifyCtrl (.ctlWrite (sigG k) b) :=
  sigG_idx_le k
@[simp] theorem sigG_ctlRead (k : Nat) (b : Bool) : Spec.mayIssue .verifyCtrl (.ctlRead (sigG k) b) :=
  (sigG_drivable k).1
@[simp] theorem sigW_ctlDir (k : Nat) (d : Dir) : Spec.mayIssue .verifyCtrl (.ctlDir (sigW k) d) :=
  .inr (sigW_cases k)
@[simp] theorem sigW_ctlRead (k : Nat) (b : Bool) : Spec.mayIssue .verifyCtrl (.ctlRead (sigW k) b) :=
  (sigW_drivable k).1
@[simp] theorem sigRO_ctlRead (k : Nat) (b : Bool) : Spec.mayIssue .verifyCtrl (.ctlRead (sigRO k) b) :=
  sigRO_ne_test k
@[simp] theorem verifyCtrl_delay (n : Nat) : Spec.mayIssue .verifyCtrl (.delay n) := trivial

/-- R185: the operations on a position are those `CROSSTALK` may issue. -/
inductive XtDriver : Driver → Prop
  | addrLine (i : Nat) : XtDriver (.addrLine i)
  | dataLine (i : Nat) : XtDriver (.dataLine i)
  | generic (g : Sig) (hg : g.idx.val ≤ 6) : XtDriver (.generic g)
  | writeOnly (g : Sig) (hg : g = .int ∨ g = .wait) : XtDriver (.writeOnly g)

theorem driverOf_xtDriver (p : Nat) : XtDriver (driverOf p) := by
  unfold driverOf
  split
  · exact .addrLine p
  split
  · exact .dataLine _
  split
  case h_8 | h_9 => exact .writeOnly _ (by simp)
  all_goals exact .generic _ (by decide)

@[simp] theorem driveFirst_issues (p : Nat) : Issues (Spec.mayIssue .crosstalk) s.io (driveFirst p s).io := by
  have hd := driverOf_xtDriver p
  unfold driveFirst
  generalize driverOf p = d at hd
  cases hd with
  | addrLine => exact addrDir_issues s trivial
  | dataLine => exact dataDir_issues s trivial
  | generic g hg => exact ctlDir_issues s hg
  | writeOnly g hg => exact ctlWrite_issues s (.inr hg)

@[simp] theorem driveSecond_issues (p : Nat) : Issues (Spec.mayIssue .crosstalk) s.io (driveSecond p s).io := by
  have hd := driverOf_xtDriver p
  unfold driveSecond
  generalize driverOf p = d at hd
  cases hd with
  | addrLine => exact addrWrite_issues s trivial
  | dataLine => exact dataWrite_issues s trivial
  | generic g hg => exact ctlWrite_issues s (.inl hg)
  | writeOnly => exact .silent rfl

@[simp] theorem releaseFirst_issues (p : Nat) : Issues (Spec.mayIssue .crosstalk) s.io (releaseFirst p s).io := by
  have hd := driverOf_xtDriver p
  unfold releaseFirst
  generalize driverOf p = d at hd
  cases hd with
  | addrLine => exact addrWrite_issues s trivial
  | dataLine => exact dataWrite_issues s trivial
  | generic g hg => exact ctlWrite_issues s (.inl hg)
  | writeOnly g hg => exact ctlWrite_issues s (.inr hg)

@[simp] theorem releaseSecond_issues (p : Nat) : Issues (Spec.mayIssue .crosstalk) s.io (releaseSecond p s).io := by
  have hd := driverOf_xtDriver p
  unfold releaseSecond
  generalize driverOf p = d at hd
  cases hd with
  | addrLine => exact addrDir_issues s trivial
  | dataLine => exact dataDir_issues s trivial
  | generic g hg => exact ctlDir_issues s hg
  | writeOnly => exact .silent rfl

@[simp] theorem crosstalk_delay (n : Nat) : Spec.mayIssue .crosstalk (.delay n) := trivial

@[simp] theorem activate_ctlDir (d : Dir) : Spec.mayIssue .activate (.ctlDir .test d) := rfl
@[simp] theorem activate_ctlWrite (b : Bool) : Spec.mayIssue .activate (.ctlWrite .test b) := rfl
@[simp] theorem activate_ctlRead (b : Bool) : Spec.mayIssue .activate (.ctlRead .test b) := rfl
@[simp] theorem activate_delay (n : Nat) : Spec.mayIssue .activate (.delay n) := trivial

@[simp] theorem deactivate_ctlDir : Spec.mayIssue .deactivate (.ctlDir .test .input) := ⟨rfl, rfl⟩
@[simp] theorem deactivate_ctlWrite : Spec.mayIssue .deactivate (.ctlWrite .test false) := ⟨rfl, rfl⟩
@[simp] theorem deactivate_ctlRead (b : Bool) : Spec.mayIssue .deactivate (.ctlRead .test b) := rfl
@[simp] theorem deactivate_delay (n : Nat) : Spec.mayIssue .deactivate (.delay n) := trivial

end

/-! ### The bodies -/

section
variable (s : State) (top : Bool)

theorem verifyBusBody_issues (b : Bus) :
    Issues (Spec.mayIssue b.command) s.io (verifyBusBody b top s).state.io := by
  unfold verifyBusBody
  split
  · simp
  · unfold verifyDriveLow
    split <;> simp
  · unfold verifyConfirm verifyDecide verifyNextLine
    split
    · split_ifs <;> simp
    · simp
  · unfold verifyDriveHigh
    split <;> simp
  · unfold verifyCleanup
    split <;> simp

theorem verifyCtrlBody_issues : Issues (Spec.mayIssue .verifyCtrl) s.io (verifyCtrlBody top s).state.io := by
  unfold verifyCtrlBody
  split
  · simp [ctrlPrologue]
  · unfold ctrlDriveLow
    split
    case h_4 => dsimp only [more_state]; split <;> simp
    all_goals simp
  · unfold ctrlConfirm ctrlDecide ctrlNextLine
    split
    · split_ifs <;> simp
    · simp
  · unfold ctrlDriveHigh
    split
    case h_3 | h_7 | h_8 => dsimp only [more_state]; split <;> simp
    all_goals simp
  · unfold ctrlCleanup
    split <;> simp

theorem sampleBody_issues : Issues (Spec.mayIssue .sample) s.io (sampleBody s).state.io := by
  unfold sampleBody
  split <;> simp

theorem crosstalkBody_issues : Issues (Spec.mayIssue .crosstalk) s.io (crosstalkBody top s).state.io := by
  unfold crosstalkBody
  split
  · unfold xtPrologue enterPosition
    split_ifs <;> simp
  · generalize hr : xtPosition top s = r
    have hstep : XtStep s top r := hr ▸ xtPosition_step s top
    cases hstep with
    | trigger =>
      unfold xtTrigger
      dsimp only [more_state]
      split <;> simp
    | decide =>
      unfold xtDecide
      dsimp only [more_state]
      split <;> simp
    | sample => simp [xtSample]
    | next =>
      unfold xtNext enterPosition
      split <;> simp
    | _ => simp

theorem activateBody_issues : Issues (Spec.mayIssue .activate) s.io (activateBody s).state.io := by
  unfold activateBody
  split
  case h_3 => split <;> simp
  case h_5 => split_ifs <;> simp
  all_goals simp

theorem deactivateBody_issues : Issues (Spec.mayIssue .deactivate) s.io (deactivateBody s).state.io := by
  unfold deactivateBody
  split
  case h_2 => split_ifs <;> simp
  all_goals simp

/-- A command that is neither a memory algorithm nor a composite issues what its rules name. -/
theorem primitive_issues {i : Instr} (hmem : memTable i = none) (hsuite : i ≠ .suite) (hfull : i ≠ .fullpass) :
    Issues (Spec.mayIssue i) s.io (bodyIn top i s).state.io := by
  cases i with
  | nop => exact issues_refl ..
  | clear => simp [bodyIn, clearBody]
  | verifyData => exact verifyBusBody_issues s top .data
  | verifyAddr => exact verifyBusBody_issues s top .address
  | verifyCtrl => exact verifyCtrlBody_issues s top
  | sample => exact sampleBody_issues s
  | crosstalk => exact crosstalkBody_issues s top
  | activate => exact activateBody_issues s
  | deactivate => exact deactivateBody_issues s
  | suite => exact absurd rfl hsuite
  | fullpass => exact absurd rfl hfull
  | _ => cases hmem

/-- R330: a step of `FULLPASS` past its prologue issues at most what the body of its stage does. -/
theorem fullpassBody_issues {P : Event → Prop}
    (h : s.seq.stage ≠ 0 → Issues P s.io (bodyIn false (stageCommand s.seq.stage) s).state.io) :
    Issues P s.io (fullpassBody s).state.io := by
  generalize hr : fullpassBody s = r
  have hstep : FullpassStep s r := hr ▸ fullpassBody_step s
  cases hstep with
  | prologue | cancelStart => exact .silent rfl
  | within hst t hbody => simpa [hbody] using h hst
  | nextStage hst _ t hbody | cancelIn hst _ t hbody | fatal hst t hbody => simpa [hbody] using h hst
  | ended hst t hbody | cancelled hst t hbody => simpa [hbody] using h (by omega)

end

/-! ### One step of the machine -/

/-- What a step of the machine does, the engine as it is but for the host's action taken off its list. -/
theorem step_turn_host {s t : State} (h : step s = .next t) : ∃ rest, Turn s t { s with host := rest } := by
  obtain ⟨-, h⟩ | ⟨a, rest, hs, h⟩ := step_next h
  · exact ⟨s.host, engineStep_turn h⟩
  refine ⟨rest, ?_⟩
  obtain ⟨-, h⟩ | ⟨index, v, -, h⟩ | ⟨index, -, rfl⟩ | ⟨rfl, rfl⟩ := h
  · unfold idleTurn at h
    split at h
    · cases h; exact .host rfl
    · exact engineStep_turn h
  · exact writeStep_turn h
  · exact .host (hostRead_core ..)
  · exact .reset rest hs rfl

/-- R98: an event is the reset, or what a step of the running command issued. -/
theorem step_event {s t : State} {e : Event} (h : step s = .next t) (he : t.trace = e :: s.trace) :
    e = .reset ∨ ∃ i rest, s.Runs i ∧
      (bodyIn true i { s with host := rest }).state.trace = e :: s.trace := by
  obtain ⟨rest, hturn⟩ := step_turn_host h
  cases hturn with
  | host h =>
    have hsame : t.trace = s.trace := eq_of_core h State.trace
    exact absurd (he.symm.trans hsame) (List.cons_ne_self _ _)
  | reset _ _ h =>
    subst h
    exact .inl (List.cons.inj he).1.symm
  | accepted i _ _ _ h =>
    subst h
    exact absurd he.symm (List.cons_ne_self _ _)
  | ran i hruns h =>
    subst h
    refine .inr ⟨i, rest, hruns, ?_⟩
    rw [← bodyOf_eq_bodyIn, ← he]
    exact (congrArg Io.trace (finish_frame _).2.2.2.2.2.2).symm

end Sys2Proof.Machine
end
section
/-! Ownership and the operations (O58), and that the machine goes on outside `HALTED` (O59). -/

namespace Sys2Proof.Machine
open Sys2Proof

/-! ### O58 -/

/-- R105: what may be issued in mode `m` while command `c` runs: in `OWNED` anything; else no `DelayMs`, and
nothing that drives but the activation's operations on `TEST`. -/
def IssuedInMode (m : Mode) (c : Instr) (e : Event) : Prop :=
  m = .owned ∨
    (∀ n, e ≠ .delayMs n) ∧
      (Spec.drives e = true → c = .activate ∧ ∃ d b, e = .ctlDir .test d ∨ e = .ctlWrite .test b)

/-- R212: outside `OWNED` the activation drives `TEST` alone, and waits with `Delay`. -/
theorem issuedInMode_of_activate (m : Mode) {e : Event} (h : Spec.mayIssue .activate e) :
    IssuedInMode m .activate e := by
  refine .inr ?_
  cases e with
  | ctlDir g d =>
    obtain rfl : g = .test := h
    exact ⟨by simp, fun _ => ⟨rfl, d, false, .inl rfl⟩⟩
  | ctlWrite g b =>
    obtain rfl : g = .test := h
    exact ⟨by simp, fun _ => ⟨rfl, .input, b, .inr rfl⟩⟩
  | ctlRead | delay => exact ⟨by simp, by simp [Spec.drives]⟩
  | _ => exact h.elim

/-- R183: `SAMPLE` only reads lines. -/
theorem issuedInMode_of_sample (m : Mode) {e : Event} (h : Spec.mayIssue .sample e) :
    IssuedInMode m .sample e := by
  refine .inr ?_
  cases e with
  | addrRead | dataRead | ctlRead => exact ⟨by simp, by simp [Spec.drives]⟩
  | _ => exact h.elim

/-- R128: a body outside `FULLPASS` runs in `OWNED`, but for the activation and the commands that drive nothing. -/
theorem primitive_issuedInMode {i : Instr} {m : Mode} (hi : i ≠ .fullpass) {st : Nat} (hmode : runMode i st m)
    (top : Bool) (s : State) : Issues (IssuedInMode m i) s.io (bodyIn top i s).state.io := by
  have hio := fun hmem hsuite => primitive_issues (i := i) s top hmem hsuite hi
  have howned : m = .owned → Issues (IssuedInMode m i) s.io (bodyIn top i s).state.io :=
    fun hm => (primitive_envFramed hi top s).2.issues fun _ => .inl hm
  cases i with
  | nop | clear => exact (hio rfl (by simp)).mono fun _ h => h.elim
  | sample => exact (hio rfl (by simp)).mono fun _ => issuedInMode_of_sample m
  | activate => exact (hio rfl (by simp)).mono fun _ => issuedInMode_of_activate m
  | fullpass => exact absurd rfl hi
  | _ => exact howned hmode

/-- R330: a stage of `FULLPASS` runs in the mode its command runs in. -/
theorem runMode_stageCommand {st : Nat} {m : Mode} (h : runMode .fullpass st m) (hst : st ≠ 0) :
    runMode (stageCommand st) st m := by
  obtain ⟨hlast, hreleased, howned⟩ := h
  match st, hst with
  | 1, _ => exact hreleased le_rfl
  | 2, _ | 3, _ | 4, _ | 5, _ | 6, _ | 7, _ => exact howned (by decide)
  | _ + 8, _ => omega

theorem bodyIn_issuedInMode {i : Instr} {s : State} (hmode : runMode i s.seq.stage s.mode) :
    Issues (IssuedInMode s.mode (current i s.seq)) s.io (bodyIn true i s).state.io := by
  by_cases hi : i = .fullpass
  · subst hi
    exact fullpassBody_issues s fun hst =>
      primitive_issuedInMode (stageCommand_ne_fullpass _) (runMode_stageCommand hmode hst) false s
  · rw [current_of_ne hi]
    exact primitive_issuedInMode hi hmode true s

/-- Settles O58: an event is what the running command issued, in the mode ownership gives that command. -/
theorem drivenOnlyWhileOwned : Obligations.DrivenOnlyWhileOwned := by
  unfold Obligations.DrivenOnlyWhileOwned
  intro s t e hs h he
  obtain rfl | ⟨i, rest, hruns, htrace⟩ := step_event h he
  · simp [Spec.drives]
  have hissued : IssuedInMode s.mode (current i s.seq) e :=
    (bodyIn_issuedInMode (s := { s with host := rest }) (hs.runMode hruns)).of_cons htrace
  obtain howned | ⟨hwait, htest⟩ := hissued
  · exact ⟨fun _ _ => howned, fun _ hne => absurd howned hne, fun _ _ => howned⟩
  · exact ⟨fun hd hact => absurd (htest hd).1 (hact i hruns), fun hd _ => (htest hd).2,
      fun n hn => absurd hn (hwait n)⟩

/-! ### O59 -/

theorem exec_goes_on (i : Instr) {s : State} (hm : s.mode ≠ .halted) : ∃ t, exec i s = .next t := by
  cases hb : s.busy
  · exact ⟨_, exec_idle hb hm⟩
  · exact ⟨_, exec_running hb hm⟩

theorem engineStep_goes_on {s : State} (hs : OwnershipInv s) (hm : s.mode ≠ .halted) :
    ∃ t, engineStep s = .next t := by
  unfold engineStep
  rw [if_neg hm]
  split
  · obtain ⟨i, hi, -⟩ := hs.2.2.2 (by assumption) hm
    rw [hi]
    exact exec_goes_on i hm
  · exact ⟨s, rfl⟩

theorem writeStep_goes_on (index : Nat) (v : Word64) {s : State} (hm : s.mode ≠ .halted) :
    ∃ t, writeStep index v s = .next t := by
  unfold writeStep
  split
  · exact ⟨_, rfl⟩
  · exact exec_goes_on _ hm

/-- Settles O59, by the host's next action. -/
theorem neverStopsUnlessHalted : Obligations.NeverStopsUnlessHalted := by
  unfold Obligations.NeverStopsUnlessHalted
  intro s hs hm
  unfold step
  split
  · exact engineStep_goes_on hs hm
  · unfold idleTurn
    rw [if_neg hm]
    exact engineStep_goes_on (ownershipInv_of_core (s := s) rfl hs) hm
  · exact writeStep_goes_on _ _ hm
  · exact ⟨_, rfl⟩
  · exact ⟨_, rfl⟩

end Sys2Proof.Machine
end

section
/-! The cells of a region (R92, R93): O45. -/

namespace Sys2Proof.Machine
open Sys2Proof

theorem addr_toNat (r : Region) (k : Nat) : (r.addr k).toNat = (r.start.toNat + k) % 65536 := by
  simp [Region.addr]

/-- R92: the address the model takes is the obligations'. -/
theorem addr_eq_cellAddr (r : Region) (k : Nat) : r.addr k = Spec.cellAddr r k := by
  apply BitVec.eq_of_toNat_eq
  rw [addr_toNat]
  simp [Spec.cellAddr]

/-- R93: two cells with one address are a multiple of 65536 apart. -/
theorem addr_injOn (r : Region) {k l : Nat} (hk : k < 65536) (hl : l < 65536) (h : r.addr k = r.addr l) :
    k = l := by
  have hmod := congrArg BitVec.toNat h
  rw [addr_toNat, addr_toNat] at hmod
  omega

/-- Settles O45. -/
theorem cellAddresses : Obligations.CellAddresses := by
  unfold Obligations.CellAddresses
  exact fun r => ⟨addr_toNat r, fun hlen _ _ hk hl => addr_injOn r (hk.trans_le hlen) (hl.trans_le hlen)⟩

end Sys2Proof.Machine
end

section
/-! The calls of the suite as words (R326): the table of the obligations is the model's. -/

namespace Sys2Proof

/-- R120: the counts of a packed word, put into its other fields. -/
theorem packWord_counts (op p : Byte) (t : Bool) (n : Byte) (d : BitVec 16) :
    packWord op p t n d = packWord op p t 0#8 0#16 ||| (n.setWidth 64 <<< 24) ||| (d.setWidth 64 <<< 32) := by
  apply BitVec.eq_of_getLsbD_eq
  intro k hk
  have hn : 32 ≤ k → n.getLsbD (k - 24) = false := fun h => BitVec.getLsbD_of_ge n _ (by omega)
  have hd : 48 ≤ k → d.getLsbD (k - 32) = false := fun h => BitVec.getLsbD_of_ge d _ (by omega)
  simp only [packWord_bit, BitVec.getLsbD_or, BitVec.getLsbD_shiftLeft, BitVec.getLsbD_setWidth, hk,
    BitVec.getLsbD_zero]
  split_ifs <;> grind

namespace Machine

/-- The calls whose words carry a count of the configuration are the last three. -/
theorem suiteWord_eq_encode (c : Cfg) {k : Nat} (hk : k < 19) :
    Spec.suiteWord c k = encode (suiteCall c k) := by
  obtain hconst | hcount : k < 16 ∨ 16 ≤ k := Nat.lt_or_ge k 16
  · interval_cases k <;> simp [Spec.suiteWord, suiteCall, suiteTable, encode, Instr.opcode, packWord]
  · interval_cases k <;> simp only [Spec.suiteWord, suiteCall, suiteTable, encode, Instr.opcode,
      List.getD_cons_zero, List.getD_cons_succ, BitVec.ofNat_toNat, BitVec.setWidth_eq] <;>
      rw [packWord_counts] <;> simp [packWord]

end Machine
end Sys2Proof
end

section
/-! A pass stays inside the region (O56): the position of a pass (R94), and the addresses its operations take
(R92, R233). -/

namespace Sys2Proof.Machine
open Sys2Proof

/-! ### Where an algorithm stands -/

/-- `SEQ` is in a pass of algorithm `j`, by the tables of the obligations. -/
def InPass (j : Instr) (s : State) : Prop :=
  1 ≤ s.seq.phase ∧ ∃ d ops, (Spec.phases j)[s.seq.phase - 1]? = some (.pass d ops)

/-- R93, R238: `POSK` is a cell of the region, or the terminal value. -/
def OnCell (s : State) : Prop := s.seq.posk < s.region.length.toNat ∨ s.seq.posk = 65536

/-- The invariant of O56 within algorithm `j`. -/
def PassOnCell (j : Instr) (s : State) : Prop := InPass j s → OnCell s

theorem regionInv_iff (s : State) :
    Spec.RegionInv s ↔ ∀ i, s.Runs i → PassOnCell (Spec.algorithm i s) s :=
  ⟨fun h i hruns ⟨hphase, d, ops, hpass⟩ => h i d ops hruns hphase hpass,
    fun h i d ops hruns hphase hpass => h i hruns ⟨hphase, d, ops, hpass⟩⟩

theorem passOnCell_of_phase_zero (j : Instr) {s : State} (h : s.seq.phase = 0) : PassOnCell j s :=
  fun ⟨hphase, _⟩ => by omega

/-- R232, R311: a phase of the model's tables is a pass. -/
def MemPhase.isPass : MemPhase → Bool
  | .pass _ _ => true
  | .wait _ _ => false

/-- A phase of the obligations' tables is a pass. -/
def specIsPass : Spec.Phase → Bool
  | .pass _ _ => true
  | .wait _ _ => false

/-- The model's table of an algorithm has its passes and its wait where the obligations' table has them. -/
theorem phases_isPass {j : Instr} {pat : Option Byte} {phases : List MemPhase}
    (h : memTable j = some (pat, phases)) : (Spec.phases j).map specIsPass = phases.map MemPhase.isPass := by
  cases j <;> cases h <;> rfl

theorem phases_of_memTable_none {j : Instr} (h : memTable j = none) : Spec.phases j = [] := by
  cases j <;> first | rfl | cases h

theorem passOnCell_of_memTable_none {j : Instr} (h : memTable j = none) (s : State) : PassOnCell j s := by
  rintro ⟨-, d, ops, hpass⟩
  simp [phases_of_memTable_none h] at hpass

/-- In phase `k + 1`, an algorithm is in a pass exactly when the model's phase is one. -/
theorem inPass_iff {j : Instr} {pat : Option Byte} {phases : List MemPhase} (h : memTable j = some (pat, phases))
    {s : State} {k : Nat} (hk : s.seq.phase = k + 1) :
    InPass j s ↔ ∃ d ops, phases[k]? = some (.pass d ops) := by
  have hkind : (Spec.phases j)[k]?.map specIsPass = phases[k]?.map MemPhase.isPass := by
    rw [← List.getElem?_map, phases_isPass h, List.getElem?_map]
  have hmodel : (∃ d ops, phases[k]? = some (.pass d ops)) ↔ phases[k]?.map MemPhase.isPass = some true := by
    cases phases[k]? with
    | none => simp
    | some p => cases p <;> simp [MemPhase.isPass]
  have hspec : (∃ d ops, (Spec.phases j)[k]? = some (.pass d ops)) ↔
      (Spec.phases j)[k]?.map specIsPass = some true := by
    cases (Spec.phases j)[k]? with
    | none => simp
    | some p => cases p <;> simp [specIsPass]
  simp [InPass, hk, hspec, hmodel, hkind]

/-! ### One step of a pass (R94, R232) -/

theorem first_onCell (d : PassDir) (len : Nat) : d.first len < len ∨ d.first len = 65536 := by
  unfold PassDir.first
  split
  · exact .inr rfl
  · cases d <;> dsimp only <;> omega

theorem next_onCell (d : PassDir) {len k : Nat} (hk : k < len) : d.next len k < len ∨ d.next len k = 65536 := by
  cases d with
  | asc =>
    simp only [PassDir.next]
    split
    · exact .inl ‹_›
    · exact .inr rfl
  | desc =>
    simp only [PassDir.next]
    split
    · exact .inr rfl
    · omega

/-- The same phase, at the same cell or the next one. -/
def StaysOrNext (d : PassDir) (s t : State) : Prop :=
  t.seq.phase = s.seq.phase ∧
    (t.seq.posk = s.seq.posk ∨ t.seq.posk = d.next s.region.length.toNat s.seq.posk)

theorem fixed_region {s t : State} (h : t.fixed = s.fixed) : t.region = s.region := eq_of_fixed h State.region

theorem nextCell_staysOrNext {d : PassDir} {s u : State} (hseq : u.seq = s.seq) (hfix : u.fixed = s.fixed) :
    StaysOrNext d s (nextCell d u) := by
  simp [StaysOrNext, nextCell, hseq, fixed_region hfix]

theorem nextOp_staysOrNext {d : PassDir} (ops : List CellOp) {s u : State} (hseq : u.seq = s.seq)
    (hfix : u.fixed = s.fixed) : StaysOrNext d s (nextOp d ops u) := by
  unfold nextOp
  split
  · simp [StaysOrNext, hseq]
  · exact nextCell_staysOrNext hseq hfix

theorem passStep_staysOrNext (d : PassDir) (ops : List CellOp) (s : State) :
    StaysOrNext d s (passStep d ops s) := by
  unfold passStep
  split
  case h_2 => exact nextCell_staysOrNext rfl rfl
  case h_1 o _ =>
    cases o with
    | w v => exact nextOp_staysOrNext ops (cellWrite_place s v).1 (cellWrite_frame s v).1
    | r v => exact nextOp_staysOrNext ops (cellRead_place s v).1 (cellRead_frame s v).1
    | rd => exact nextOp_staysOrNext ops (cellReadDiscard_place s).1 (cellReadDiscard_frame s).1
    | rstop v n =>
      change StaysOrNext d s (rstopTurn d ops v n s)
      obtain ⟨-, h⟩ | ⟨-, -, h⟩ | ⟨-, -, h⟩ := rstopTurn_cases d ops v n s <;> rw [h]
      · exact nextOp_staysOrNext ops (by simp) (by simp)
      · exact nextOp_staysOrNext ops (by simp) (by simp)
      · exact ⟨by simp, .inl (by simp)⟩

theorem StaysOrNext.onCell {d : PassDir} {s t : State} (h : StaysOrNext d s t) (hregion : t.region = s.region)
    (hk : s.seq.posk < s.region.length.toNat) : OnCell t := by
  unfold OnCell
  rw [hregion]
  obtain hsame | hnext := h.2
  · exact .inl (hsame ▸ hk)
  · rw [hnext]
    exact next_onCell d hk

/-! ### One step of an algorithm -/

theorem enterPhase_onCell {phases : List MemPhase} {k : Nat} {d : PassDir} {ops : List CellOp}
    (h : phases[k]? = some (.pass d ops)) (s : State) : OnCell (enterPhase phases k s) := by
  rw [enterPhase_eq, h]
  exact first_onCell d s.region.length.toNat

section
variable {j : Instr} {pat : Option Byte} {phases : List MemPhase} {s : State}

theorem enterPhase_passOnCell (hj : memTable j = some (pat, phases)) (k : Nat) (u : State) :
    PassOnCell j (enterPhase phases k u) := by
  rw [PassOnCell, inPass_iff hj (enterPhase_frame u phases k).2.2.2.2.2.2.1]
  rintro ⟨d, ops, hpass⟩
  exact enterPhase_onCell hpass u

/-- In a pass of the algorithm before its terminal value, `POSK` is a cell of the region. -/
theorem PassOnCell.lt (hs : PassOnCell j s) (hj : memTable j = some (pat, phases)) {k : Nat}
    (hk : s.seq.phase = k + 1) {d : PassDir} {ops : List CellOp} (hpass : phases[k]? = some (.pass d ops))
    (hend : s.seq.posk < Config.passEnd) : s.seq.posk < s.region.length.toNat :=
  (hs ((inPass_iff hj hk).mpr ⟨d, ops, hpass⟩)).resolve_right hend.ne

/-- Every step with which an algorithm goes on keeps `POSK` in the region. -/
theorem memBody_passOnCell (hj : memTable j = some (pat, phases)) (hs : PassOnCell j s) (top : Bool) {t : State}
    (h : memBody top pat phases s = .more t) : PassOnCell j t := by
  obtain ⟨-, hcase⟩ | ⟨k, -, -, hcase⟩ | ⟨k, d, ops, hk, hpass, hend, hcase⟩ | ⟨k, ms, n, hk, hwait, -, hcase⟩ |
      ⟨k, p, hk, -, hcase⟩ := memBody_cases top pat phases s <;> rw [hcase] at h
  · cases h
    exact enterPhase_passOnCell hj _ _
  · cases h
  · cases h
    have hregion := fixed_region (passStep_framed s d ops).1
    exact fun _ => (passStep_staysOrNext d ops s).onCell hregion (hs.lt hj hk hpass hend)
  · cases h
    rw [PassOnCell, inPass_iff hj ((congrArg Seq.phase (waitStep_frame s ms).2.2.2.2.1).trans hk), hwait]
    simp
  · unfold endPhase at h
    split at h <;> cases h
    exact enterPhase_passOnCell hj _ _

/-! ### The addresses of the memory primitives (R92, R233) -/

/-- If it is a memory primitive, the event is at a cell of the region `r`. -/
def InCells (r : Region) (e : Event) : Prop :=
  ∀ a v, e = .memRead a v ∨ e = .memWrite a v → ∃ k < r.length.toNat, a = Spec.cellAddr r k

theorem inCells_memRead {r : Region} {k : Nat} (hk : k < r.length.toNat) (v : Byte) :
    InCells r (.memRead (r.addr k) v) := by
  rintro a w (h | h) <;> cases h
  exact ⟨k, hk, addr_eq_cellAddr r k⟩

theorem inCells_memWrite {r : Region} {k : Nat} (hk : k < r.length.toNat) (v : Byte) :
    InCells r (.memWrite (r.addr k) v) := by
  rintro a w (h | h) <;> cases h
  exact ⟨k, hk, addr_eq_cellAddr r k⟩

theorem inCells_delayMs (r : Region) (n : Nat) : InCells r (.delayMs n) := by
  rintro a v (h | h) <;> cases h

section
variable (hk : s.seq.posk < s.region.length.toNat)
include hk

theorem cellWrite_inCells (v : CellVal) : Issues (InCells s.region) s.io (cellWrite v s).io := by
  rw [cellWrite_eq]
  exact .event _ (inCells_memWrite hk _) rfl

theorem cellReadDiscard_inCells : Issues (InCells s.region) s.io (cellReadDiscard s).io := by
  rw [cellReadDiscard_eq]
  exact .event _ (inCells_memRead hk _) rfl

theorem cellFetch_inCells (v : CellVal) : Issues (InCells s.region) s.io (cellFetch v s).io := by
  rw [cellFetch_eq]
  exact .event _ (inCells_memRead hk _) rfl

theorem rstopTurn_inCells (d : PassDir) (ops : List CellOp) (v : CellVal) (n : Nat) :
    Issues (InCells s.region) s.io (rstopTurn d ops v n s).io := by
  have hread : Issues (InCells s.region) s.io (cellFetch v (rstopBegin s)).io := by
    have h := cellFetch_inCells (s := rstopBegin s) (by rw [rstopBegin_eq]; exact hk) v
    simpa only [rstopBegin_frame, fixed_region (rstopBegin_frame s).1] using h
  obtain ⟨-, h⟩ | ⟨-, -, h⟩ | ⟨-, -, h⟩ := rstopTurn_cases d ops v n s <;> rw [h] <;> simp [hread]

theorem passStep_inCells (d : PassDir) (ops : List CellOp) :
    Issues (InCells s.region) s.io (passStep d ops s).io := by
  unfold passStep cellOp
  split
  · split
    · simpa using cellWrite_inCells hk _
    · simpa [cellRead] using cellFetch_inCells hk _
    · simpa using cellReadDiscard_inCells hk
    · exact rstopTurn_inCells hk ..
  · simp

end

theorem memBody_inCells (hj : memTable j = some (pat, phases)) (hs : PassOnCell j s) (top : Bool) :
    Issues (InCells s.region) s.io (memBody top pat phases s).state.io := by
  obtain ⟨-, h⟩ | ⟨k, -, -, h⟩ | ⟨k, d, ops, hk, hpass, hend, h⟩ | ⟨k, ms, n, -, -, -, h⟩ | ⟨k, p, -, -, h⟩ :=
    memBody_cases top pat phases s <;> rw [h]
  · simp
  · simp
  · exact passStep_inCells (hs.lt hj hk hpass hend) d ops
  · exact .event _ (inCells_delayMs _ ms) rfl
  · unfold endPhase
    split <;> simp

end

end Sys2Proof.Machine
end

section
/-! The region in the suite and the full pass (R326, R330), and O56. -/

namespace Sys2Proof.Machine
open Sys2Proof

/-! ### Which algorithm runs -/

theorem algorithm_of_ne {i : Instr} (hsuite : i ≠ .suite) (hfull : i ≠ .fullpass) (s : State) :
    Spec.algorithm i s = i := by
  cases i <;> first | rfl | contradiction

theorem algorithm_fullpass (s : State) :
    Spec.algorithm .fullpass s = Spec.algorithm (stageCommand s.seq.stage) s := by
  have h : current (stageCommand s.seq.stage) s.seq = stageCommand s.seq.stage :=
    current_of_ne (stageCommand_ne_fullpass _) _
  unfold Spec.algorithm
  rw [h]
  rfl

/-- R326: in the suite the algorithm is the command of the running call. -/
theorem algorithm_suite {s : State} (h : s.seq.call < 19) : Spec.algorithm .suite s = suiteCall s.cfg s.seq.call := by
  have hword : decode (Spec.suiteWord s.cfg s.seq.call) = .ok (suiteCall s.cfg s.seq.call) := by
    rw [suiteWord_eq_encode s.cfg h, decode_encode (suiteCall_wellFormed ..)]
  simp [Spec.algorithm, current, hword]

/-- A call that runs a memory algorithm is one of the 19 (R326). -/
theorem call_lt_of_memTable {c : Cfg} {k : Nat} {row : Option Byte × List MemPhase}
    (h : memTable (suiteCall c k) = some row) : k < 19 := by
  by_contra hk
  have hnone : (suiteTable c)[k]? = none := List.getElem?_eq_none (by simpa [suiteTable] using hk)
  rw [suiteCall, List.getD_eq_getElem?_getD, hnone] at h
  cases h

/-! ### The suite -/

theorem suiteBody_inCells {s : State} (hs : PassOnCell (Spec.algorithm .suite s) s) (top : Bool) :
    Issues (InCells s.region) s.io (suiteBody top s).state.io := by
  have hcall : Issues (InCells s.region) s.io (memAlgorithmBody (suiteCall s.cfg s.seq.call) s).state.io := by
    cases hrow : memTable (suiteCall s.cfg s.seq.call) with
    | none => rw [memAlgorithmBody_of_none hrow]; exact issues_refl ..
    | some row =>
      rw [algorithm_suite (call_lt_of_memTable hrow)] at hs
      rw [memAlgorithmBody_of_memTable hrow]
      exact memBody_inCells hrow hs false
  generalize hr : suiteBody top s = r
  have hstep : SuiteStep top s r := hr ▸ suiteBody_step top s
  cases hstep with
  | prologue | cancel => exact .silent rfl
  | call _ t h => simpa [h] using hcall
  | nextCall t h | last t h => simpa [h] using hcall

theorem suiteBody_passOnCell {s : State} (hs : PassOnCell (Spec.algorithm .suite s) s) (top : Bool) {t : State}
    (h : suiteBody top s = .more t) : PassOnCell (Spec.algorithm .suite t) t := by
  generalize hr : suiteBody top s = r at h
  have hstep : SuiteStep top s r := hr ▸ suiteBody_step top s
  cases hstep with
  | prologue hstart =>
    cases h
    exact passOnCell_of_phase_zero _ rfl
  | call _ u hcall =>
    cases h
    cases hrow : memTable (suiteCall s.cfg s.seq.call) with
    | none => rw [memAlgorithmBody_of_none hrow] at hcall; cases hcall
    | some row =>
      have hlt := call_lt_of_memTable hrow
      have hgoes := memAlgorithmBody_goesOn (suiteCall_wellFormed s.cfg s.seq.call) s
      rw [hcall] at hgoes
      obtain ⟨⟨hcfg, -, hsame⟩, -, -⟩ := hgoes
      rw [algorithm_suite hlt] at hs
      rw [algorithm_suite (hsame ▸ hlt), hcfg, hsame]
      rw [memAlgorithmBody_of_memTable hrow] at hcall
      exact memBody_passOnCell hrow hs false hcall
  | nextCall u _ _ =>
    cases h
    exact passOnCell_of_phase_zero _ rfl
  | cancel | last => cases h

/-! ### Every command -/

/-- R231: a command that is no memory algorithm has no memory primitive among its operations. -/
theorem not_mayIssue_memory {i : Instr} (h : memTable i = none) (a : Addr) (v : Byte) :
    ¬ Spec.mayIssue i (.memRead a v) ∧ ¬ Spec.mayIssue i (.memWrite a v) := by
  cases i <;> first | exact ⟨id, id⟩ | cases h

theorem primitive_inCells {i : Instr} (hi : i ≠ .fullpass) {s : State} (hs : PassOnCell (Spec.algorithm i s) s)
    (top : Bool) : Issues (InCells s.region) s.io (bodyIn top i s).state.io := by
  by_cases hsuite : i = .suite
  · subst hsuite
    exact suiteBody_inCells hs top
  cases hrow : memTable i with
  | some row =>
    rw [algorithm_of_ne hsuite hi] at hs
    rw [bodyIn_of_memTable hrow]
    exact memBody_inCells hrow hs top
  | none =>
    refine (primitive_issues s top hrow hsuite hi).mono fun e he => ?_
    rintro a v (rfl | rfl)
    · exact absurd he (not_mayIssue_memory hrow a v).1
    · exact absurd he (not_mayIssue_memory hrow a v).2

theorem primitive_passOnCell {i : Instr} (hi : i ≠ .fullpass) {s : State} (hs : PassOnCell (Spec.algorithm i s) s)
    (top : Bool) {t : State} (h : bodyIn top i s = .more t) : PassOnCell (Spec.algorithm i t) t := by
  by_cases hsuite : i = .suite
  · subst hsuite
    exact suiteBody_passOnCell hs top h
  rw [algorithm_of_ne hsuite hi] at hs ⊢
  cases hrow : memTable i with
  | none => exact passOnCell_of_memTable_none hrow t
  | some row =>
    rw [bodyIn_of_memTable hrow] at h
    exact memBody_passOnCell hrow hs top h

theorem bodyIn_inCells (i : Instr) {s : State} (hs : PassOnCell (Spec.algorithm i s) s) :
    Issues (InCells s.region) s.io (bodyIn true i s).state.io := by
  by_cases hi : i = .fullpass
  case neg => exact primitive_inCells hi hs true
  case pos =>
    subst hi
    rw [algorithm_fullpass] at hs
    exact fullpassBody_issues s fun _ => primitive_inCells (stageCommand_ne_fullpass _) hs false

theorem bodyIn_passOnCell (i : Instr) {s : State} (hs : PassOnCell (Spec.algorithm i s) s) {t : State}
    (h : bodyIn true i s = .more t) : PassOnCell (Spec.algorithm i t) t := by
  by_cases hi : i = .fullpass
  case neg => exact primitive_passOnCell hi hs true h
  case pos =>
    subst hi
    change fullpassBody s = .more t at h
    rw [algorithm_fullpass] at hs ⊢
    generalize hr : fullpassBody s = r at h
    have hstep : FullpassStep s r := hr ▸ fullpassBody_step s
    cases hstep with
    | prologue | cancelStart | nextStage | cancelIn => cases h; exact passOnCell_of_phase_zero _ rfl
    | within _ u hbody =>
      cases h
      have hstage := primitive_stage (stageCommand_ne_fullpass s.seq.stage) false s
      rw [hbody, more_state] at hstage
      rw [hstage]
      exact primitive_passOnCell (stageCommand_ne_fullpass _) hs false hbody
    | ended | cancelled | fatal => cases h

/-- A body that raises the fatal halt leaves the engine in `HALTED` (R352). -/
theorem primitive_fatal {i : Instr} (hi : i ≠ .fullpass) {top : Bool} {s t : State}
    (h : bodyIn top i s = .fatal t) : t.mode = .halted := by
  have hcomes := primitive_comes hi top s
  rw [h] at hcomes
  obtain ⟨c, -, hfix⟩ := hcomes
  exact eq_of_fixed (s := raiseFatal c s) hfix State.mode

theorem bodyIn_fatal {i : Instr} {s t : State} (h : bodyIn true i s = .fatal t) : t.mode = .halted := by
  by_cases hi : i = .fullpass
  case neg => exact primitive_fatal hi h
  case pos =>
    subst hi
    change fullpassBody s = .fatal t at h
    generalize hr : fullpassBody s = r at h
    have hstep : FullpassStep s r := hr ▸ fullpassBody_step s
    cases hstep with
    | fatal _ u hbody => cases h; exact primitive_fatal (stageCommand_ne_fullpass _) hbody
    | _ => cases h

/-! ### The invariant -/

theorem regionInv_of_not_running {t : State} (h : ¬ t.Running) : Spec.RegionInv t :=
  (regionInv_iff t).mpr fun _ hruns => absurd hruns.1 h

theorem regionInv_ran {s : State} {i : Instr} (hs : Spec.RegionInv s) (hruns : s.Runs i) :
    Spec.RegionInv (finish (bodyOf i s)) := by
  have hcell := (regionInv_iff s).mp hs i hruns
  rw [bodyOf_eq_bodyIn]
  have hlast : decode (bodyIn true i s).state.lastcmd = .ok i := by
    rw [bodyIn_lastcmd]
    exact hruns.2
  cases hr : bodyIn true i s with
  | more t =>
    rw [hr] at hlast
    refine (regionInv_iff t).mpr fun k hk => ?_
    obtain rfl : i = k := Except.ok.inj (hlast.symm.trans hk.2)
    exact bodyIn_passOnCell i hcell hr
  | ended t | cancelled t => exact regionInv_of_not_running fun h => Bool.false_ne_true h.1
  | fatal t => exact regionInv_of_not_running fun h => h.2 (bodyIn_fatal hr)

/-- R59, R61: while a command runs and goes on, nothing changes the configuration or the region. -/
theorem step_keeps_settings {s t : State} (h : step s = .next t) (hs : s.Running) (ht : t.busy = true) :
    t.cfg = s.cfg ∧ t.region = s.region := by
  have hengine {rest : List HostAct} (h : engineStep { s with host := rest } = .next t) :
      t.cfg = s.cfg ∧ t.region = s.region := by
    obtain ⟨-, ⟨-, rfl⟩ | ⟨-, i, -, hexec⟩⟩ := engineStep_next h
    · exact ⟨rfl, rfl⟩
    · obtain ⟨hcfg, hregion, -⟩ := execFrame i _ _ hexec
      exact ⟨hcfg, hregion⟩
  obtain ⟨-, h⟩ | ⟨a, rest, -, h⟩ := step_next h
  · exact hengine (rest := s.host) h
  obtain ⟨-, h⟩ | ⟨index, v, -, h⟩ | ⟨index, -, rfl⟩ | ⟨-, rfl⟩ := h
  · rw [idleTurn, if_neg hs.2] at h
    exact hengine h
  · rw [writeStep, hostWrite, if_neg hs.2, if_pos hs.1] at h
    cases h
    unfold busyWrite
    split <;> exact ⟨rfl, rfl⟩
  · unfold hostRead
    split
    · exact ⟨rfl, rfl⟩
    · split <;> exact ⟨rfl, rfl⟩
  · cases ht

theorem regionInv_step {s t : State} (hs : Spec.RegionInv s) (h : step s = .next t) : Spec.RegionInv t := by
  obtain ⟨rest, hturn⟩ := step_turn_host h
  cases hturn with
  | host hcore =>
    refine (regionInv_iff t).mpr fun i hruns => ?_
    have hseq : t.seq = s.seq := eq_of_core hcore State.seq
    have hwas : s.Runs i := (eq_of_core (s := { s with host := rest }) hcore fun u => u.Runs i).mp hruns
    obtain ⟨hcfg, hregion⟩ := step_keeps_settings h hwas.1 hruns.1.1
    have hcell := (regionInv_iff s).mp hs i hwas
    simpa only [PassOnCell, InPass, OnCell, Spec.algorithm, hseq, hcfg, hregion] using hcell
  | reset _ _ h => exact h ▸ regionInv_of_not_running fun hrun => Bool.false_ne_true hrun.1
  | accepted i _ _ _ h =>
    exact h ▸ (regionInv_iff _).mpr fun _ _ => passOnCell_of_phase_zero _ rfl
  | ran i hruns h => exact h ▸ regionInv_ran (s := { s with host := rest }) hs hruns

/-- Settles O56: a pass goes from a cell of the region to a cell of it or to its end, and its operations are at the
cell. -/
theorem regionKept : Obligations.RegionKept := by
  unfold Obligations.RegionKept
  intro s t hs h
  refine ⟨regionInv_step hs h, fun a v he => ?_⟩
  obtain ⟨e, htrace, hmem⟩ : ∃ e, t.trace = e :: s.trace ∧ (e = .memRead a v ∨ e = .memWrite a v) := by
    obtain h | h := he
    · exact ⟨_, h, .inl rfl⟩
    · exact ⟨_, h, .inr rfl⟩
  obtain rfl | ⟨i, rest, hruns, hbody⟩ := step_event h htrace
  · simp at hmem
  · exact (bodyIn_inCells (s := { s with host := rest }) i ((regionInv_iff s).mp hs i hruns)).of_cons hbody a v hmem

end Sys2Proof.Machine
end

section
/-! The command word (O1 to O3): a word that decodes is put together from the fields of its format (R120, R121),
and the encoder puts them together in the same way; a 1 anywhere else is refused (R124). -/

namespace Sys2Proof

/-- Settles O1. -/
theorem decodeEncodeRoundTrip : Obligations.DecodeEncodeRoundTrip := by
  unfold Obligations.DecodeEncodeRoundTrip
  exact fun _ hi => decode_encode hi

/-! ### The row of a word (R123) -/

section
variable {w : Word64} {f : Format} {i : Instr}

theorem rowOf_some (h : rowOf w = some (f, i)) : f = i.format ∧ fieldOp w = i.opcode := by
  unfold rowOf at h
  split at h <;> cases h <;> exact ⟨rfl, by assumption⟩

/-- The opcode alone decides the row (R126); the operands of its command are those of the word. -/
theorem rowOf_of_opcode (h : fieldOp w = i.opcode) : ∃ j, rowOf w = some (i.format, j) := by
  cases i <;> exact ⟨_, by rw [rowOf, h]; rfl⟩

theorem decode_eq_ok_iff :
    decode w = .ok i ↔ rowOf w = some (i.format, i) ∧ w &&& i.format.mask = (fieldOp w).setWidth 64 := by
  constructor
  · intro h
    unfold decode at h
    split at h
    · cases h
    next f j hrow =>
      split at h <;> cases h
      next hmask =>
        obtain ⟨rfl, -⟩ := rowOf_some hrow
        exact ⟨hrow, hmask⟩
  · exact fun ⟨hrow, hmask⟩ => decode_of_row hrow hmask

theorem decode_badOpcode (h : rowOf w = none) : decode w = .error .badOpcode := by
  simp [decode, h]

theorem decode_badParam (hrow : rowOf w = some (f, i)) (hmask : w &&& f.mask ≠ (fieldOp w).setWidth 64) :
    decode w = .error .badParam := by
  simp [decode, hrow, hmask]

end

/-! ### A word and its fields -/

/-- A mask has ones where the word of its complementary fields has zeros. -/
theorem packMask_eq_not (p : Byte) (t : Bool) (n : Byte) (d : BitVec 16) :
    packMask p t n d = ~~~packWord 0#8 (~~~p) (!t) (~~~n) (~~~d) := by
  unfold packMask packWord
  erw [BitVec.not_append, BitVec.not_append, BitVec.not_append, BitVec.not_append, BitVec.not_append,
    BitVec.not_append]
  cases t <;> simp

/-- A word whose only ones under a mask are its opcode's is its opcode and the fields the mask leaves free. -/
theorem packWord_of_masked {w : Word64} {p : Byte} {t : Bool} {n : Byte} {d : BitVec 16}
    (h : w &&& packMask p t n d = (fieldOp w).setWidth 64) :
    packWord (fieldOp w) (fieldP w &&& ~~~p) (fieldT w && !t) (w.extractLsb' 24 8 &&& ~~~n)
      (w.extractLsb' 32 16 &&& ~~~d) = w := by
  apply BitVec.eq_of_getLsbD_eq
  intro k hk
  have hbit := congrArg (·.getLsbD k) h
  simp only [packMask_eq_not, BitVec.getLsbD_and, BitVec.getLsbD_not, BitVec.getLsbD_setWidth, packWord_bit] at hbit
  simp only [packWord_bit, fieldOp, fieldP, fieldT, BitVec.getLsbD_and, BitVec.getLsbD_not, BitVec.getLsbD_extractLsb',
    Nat.zero_add] at hbit ⊢
  -- the fields are ranges of `k`; outside them both words have the opcode's bit, or 0
  grind

theorem ofNat_fieldN (w : Word64) : BitVec.ofNat 8 (fieldN w) = w.extractLsb' 24 8 :=
  (BitVec.ofNat_toNat ..).trans (BitVec.setWidth_eq _)

theorem ofNat_fieldD (w : Word64) : BitVec.ofNat 16 (fieldD w) = w.extractLsb' 32 16 :=
  (BitVec.ofNat_toNat ..).trans (BitVec.setWidth_eq _)

/-- The word of the opcode and of the operand fields of the format, every other bit 0. -/
def Format.pack (f : Format) (w : Word64) : Word64 :=
  match f with
  | .z => packWord (fieldOp w) 0#8 false 0#8 0#16
  | .p => packWord (fieldOp w) (fieldP w) false 0#8 0#16
  | .t => packWord (fieldOp w) 0#8 (fieldT w) 0#8 0#16
  | .pt => packWord (fieldOp w) (fieldP w) (fieldT w) 0#8 0#16
  | .pn => packWord (fieldOp w) (fieldP w) false (w.extractLsb' 24 8) 0#16
  | .pdn => packWord (fieldOp w) (fieldP w) false (w.extractLsb' 24 8) (w.extractLsb' 32 16)

theorem Format.pack_of_masked {f : Format} {w : Word64} (h : w &&& f.mask = (fieldOp w).setWidth 64) :
    f.pack w = w := by
  have hbyte (v : BitVec 8) : v &&& 0xFF#8 = v := BitVec.and_allOnes
  have hword (v : BitVec 16) : v &&& 0xFFFF#16 = v := BitVec.and_allOnes
  rw [f.mask_eq] at h
  cases f <;> simpa [Format.pack, hbyte, hword] using packWord_of_masked h

theorem encode_of_row {w : Word64} {f : Format} {i : Instr} (h : rowOf w = some (f, i)) : encode i = f.pack w := by
  have hop := (rowOf_some h).2
  unfold rowOf at h
  split at h <;> cases h <;> simp [encode, Format.pack, hop, ofNat_fieldN, ofNat_fieldD]

theorem encode_of_decode {w : Word64} {i : Instr} (h : decode w = .ok i) : encode i = w := by
  obtain ⟨hrow, hmask⟩ := decode_eq_ok_iff.mp h
  rw [encode_of_row hrow, Format.pack_of_masked hmask]

/-- Settles O2. -/
theorem decodedWordIsItsEncoding : Obligations.DecodedWordIsItsEncoding := by
  unfold Obligations.DecodedWordIsItsEncoding
  exact fun _ _ h => ⟨encode_of_decode h, wellFormed_of_decode h⟩

/-- Settles O3, by evaluating the decoder. -/
theorem specWordsDecode : Obligations.SpecWordsDecode := by
  unfold Obligations.SpecWordsDecode
  exact ⟨rfl, rfl, rfl, rfl, rfl, rfl, rfl, rfl, rfl, rfl, rfl⟩

/-! ### The bits a command does not use (R124) -/

/-- R121: bit `k` of the word belongs to an operand field of the format. -/
def Format.operandBit (f : Format) (k : Nat) : Prop :=
  match f with
  | .z => False
  | .p => 8 ≤ k ∧ k ≤ 15
  | .t => k = 16
  | .pt => (8 ≤ k ∧ k ≤ 15) ∨ k = 16
  | .pn => (8 ≤ k ∧ k ≤ 15) ∨ (24 ≤ k ∧ k ≤ 31)
  | .pdn => (8 ≤ k ∧ k ≤ 15) ∨ (32 ≤ k ∧ k ≤ 47) ∨ (24 ≤ k ∧ k ≤ 31)

theorem usesBit_iff (i : Instr) (k : Nat) : Spec.usesBit i k ↔ k ≤ 7 ∨ i.format.operandBit k := by
  cases i <;> rfl

theorem Format.mask_bit (f : Format) {k : Nat} (hk : k < 64) : f.mask.getLsbD k = true ↔ ¬ f.operandBit k := by
  revert k
  cases f <;> unfold Format.mask Format.operandBit <;> decide

theorem fieldOp_toNat (w : Word64) : (fieldOp w).toNat = w.toNat % 256 := by
  simp [fieldOp]

theorem opcode_toNat (i : Instr) : i.opcode.toNat = Spec.opcodeOf i := by cases i <;> rfl

theorem fieldOp_eq_opcode_iff (w : Word64) (i : Instr) : fieldOp w = i.opcode ↔ w.toNat % 256 = Spec.opcodeOf i := by
  rw [← BitVec.toNat_inj, fieldOp_toNat, opcode_toNat]

/-- R124: a 1 in a bit that is neither of the opcode nor of an operand of its format. -/
theorem decode_extraBit {w : Word64} {i : Instr} (hop : fieldOp w = i.opcode) {k : Nat} (hk : k < 64)
    (hunused : ¬ Spec.usesBit i k) (hbit : w.getLsbD k = true) : decode w = .error .badParam := by
  rw [usesBit_iff, not_or] at hunused
  obtain ⟨hlow, hoperand⟩ := hunused
  obtain ⟨j, hrow⟩ := rowOf_of_opcode hop
  refine decode_badParam hrow fun hmask => ?_
  have hone : (w &&& i.format.mask).getLsbD k = true := by
    rw [BitVec.getLsbD_and, hbit, (Format.mask_bit _ hk).mpr hoperand, Bool.true_and]
  have hzero : ((fieldOp w).setWidth 64).getLsbD k = false := by
    rw [BitVec.getLsbD_setWidth, BitVec.getLsbD_of_ge _ _ (by omega), Bool.and_false]
  rw [hmask, hzero] at hone
  exact Bool.false_ne_true hone

end Sys2Proof
end

section
/-! A word written to `CMD` (O4, O5): the table of the statements, row by row, against the decoder and the checks
of acceptance. -/

namespace Sys2Proof.Machine
open Sys2Proof

/-- Settles O4, by the decoder's refusal of an extra bit. -/
theorem mustBeZeroBitRefused : Obligations.MustBeZeroBitRefused := by
  unfold Obligations.MustBeZeroBitRefused
  intro i w s rest k hidle hop hk hunused hbit
  rw [step_write rfl rfl]
  exact writeStep_cmd_error (s := { s with host := rest }) hidle
    (decode_extraBit ((fieldOp_eq_opcode_iff w i).mpr hop) hk hunused hbit)

/-! ### The table of R121, R123, R128 and R359 -/

/-- A row of the table says of a command what the decoder and acceptance do. -/
structure RowAgrees (r : Spec.Row) (i : Instr) : Prop where
  op : BitVec.ofNat 64 r.op = i.opcode.setWidth 64
  mask : BitVec.ofNat 64 r.mask = i.format.mask
  released : r.released = modeAllows i .released
  owned : r.owned = modeAllows i .owned
  config (c : Cfg) : Spec.groupOk r.group c = configLegal i c
  region : r.region = usesRegion i

theorem RowAgrees.mode {r : Spec.Row} {i : Instr} (h : RowAgrees r i) {m : Mode} (hm : m ≠ .halted) :
    (if m = .released then r.released else r.owned) = modeAllows i m := by
  cases m with
  | released => exact h.released
  | owned => exact h.owned
  | halted => exact absurd rfl hm

theorem pctOk_eq (p : BitVec 7) : Spec.pctOk p = pctLegal p := Bool.decide_and _ _

/-- The table has a row for every command, and it agrees with the command. -/
theorem rowFor_of_opcode {w : Word64} {i : Instr} (h : fieldOp w = i.opcode) :
    ∃ r, Spec.rowFor w = some r ∧ RowAgrees r i := by
  rw [Spec.rowFor, (fieldOp_eq_opcode_iff w i).mp h]
  cases i <;> refine ⟨_, rfl, rfl, rfl, rfl, rfl, fun c => ?_, rfl⟩ <;>
    simp [Spec.groupOk, configLegal, pctOk_eq, Cfg.loopsLegal]

/-- A command of every row, in the table's order. -/
def commandOfEachRow : List Instr :=
  [.nop, .activate, .deactivate, .clear, .verifyData, .verifyAddr, .verifyCtrl, .sample, .crosstalk,
   .repwrite 0#8 false, .repread 0#8, .checker false, .walk1, .walk0, .marchc, .marchss, .marchla, .movinv 0#8,
   .retention 0#8 0 0, .readdestr 0#8 0, .addruniq 0#8, .suite, .fullpass]

theorem rows_op : Spec.rows.map Spec.Row.op = commandOfEachRow.map Spec.opcodeOf := rfl

/-- The table has no other row. -/
theorem rowFor_of_rowOf_none {w : Word64} (h : rowOf w = none) : Spec.rowFor w = none := by
  refine List.find?_eq_none.mpr fun r hr heq => ?_
  obtain ⟨i, -, hi⟩ := List.mem_map.mp (rows_op ▸ List.mem_map_of_mem (f := Spec.Row.op) hr)
  have hop : w.toNat % 256 = Spec.opcodeOf i := (eq_of_beq heq).symm.trans hi.symm
  obtain ⟨j, hrow⟩ := rowOf_of_opcode ((fieldOp_eq_opcode_iff w i).mpr hop)
  cases h.symm.trans hrow

/-! ### The eight lines of R127 -/

theorem region_legal_eq_false (r : Region) : r.legal = false ↔ 65536 < r.length.toNat := by
  rw [Region.legal, decide_eq_false_iff_not, Nat.not_le, Config.maxRegion]

/-- R127: the eight lines, one after another. -/
theorem writeStep_cmd (w : Word64) (s : State) : writeStep 0x00 w s = .next (Spec.commandWritten w s) := by
  unfold Spec.commandWritten
  by_cases hm : s.mode = .halted
  · rw [if_pos hm, writeStep_now (hostWrite_halted hm), refuse]
  rw [if_neg hm]
  by_cases hb : s.busy = true
  · rw [if_pos hb, writeStep_running_other ⟨hb, hm⟩ (by decide), refuse]
  rw [if_neg hb]
  have hidle : s.Idle := ⟨by simpa using hb, hm⟩
  cases hrow : rowOf w with
  | none =>
    rw [rowFor_of_rowOf_none hrow, writeStep_cmd_error hidle (decode_badOpcode hrow), rejectCode, refuse]
  | some fi =>
    obtain ⟨f, i⟩ := fi
    obtain ⟨rfl, hop⟩ := rowOf_some hrow
    obtain ⟨r, hr, hagree⟩ := rowFor_of_opcode hop
    simp only [hr, hagree.op, hagree.mask, hagree.mode hm, hagree.config, hagree.region, ← hop]
    by_cases hmask : w &&& i.format.mask = (fieldOp w).setWidth 64
    · have hi : decode w = .ok i := decode_of_row hrow hmask
      rw [writeStep_cmd_ok hidle hi, exec_idle hidle.1 hm, if_neg (not_not.mpr hmask)]
      simp only [present, encode_of_decode hi, Bool.not_eq_true', Bool.not_eq_true, Bool.and_eq_true,
        region_legal_eq_false]
      rfl
    · rw [if_pos hmask, writeStep_cmd_error hidle (decode_badParam hrow hmask), rejectCode, refuse]

/-- Settles O5. -/
theorem commandWriteHandledByFirstLine : Obligations.CommandWriteHandledByFirstLine := by
  unfold Obligations.CommandWriteHandledByFirstLine
  intro s w rest
  rw [step_write rfl rfl]
  exact writeStep_cmd w { s with host := rest }

end Sys2Proof.Machine
end

section
/-! The operations of the memory algorithms and of the composites, and O43. -/

namespace Sys2Proof.Machine
open Sys2Proof

/-! ### A memory algorithm (R233, R256, R311) -/

/-- R256: a memory algorithm may read and write the mapped memory. -/
theorem mayIssue_memory {i : Instr} {row : Option Byte × List MemPhase} (h : memTable i = some row) (a : Addr)
    (v : Byte) : Spec.mayIssue i (.memRead a v) ∧ Spec.mayIssue i (.memWrite a v) := by
  cases i <;> cases h <;> exact ⟨trivial, trivial⟩

/-- R311: `RETENTION` alone waits, and for its operand `D`. -/
theorem mayIssue_delayMs {i : Instr} {pat : Option Byte} {phases : List MemPhase}
    (h : memTable i = some (pat, phases)) {ms n : Nat} (hwait : .wait ms n ∈ phases) :
    Spec.mayIssue i (.delayMs ms) := by
  cases i <;> cases h
  case retention p d m =>
    obtain ⟨rfl, -⟩ : ms = d ∧ n = m := by simpa [retentionTable] using hwait
    rfl
  all_goals simp [repwriteTable, repreadTable, checkerTable, walkTable, walkOrder, marchcTable, marchssTable,
    marchlaTable, movinvTable, readdestrTable, addruniqTable] at hwait

section
variable {P : Event → Prop} (s : State)

theorem cellWrite_issues (hwrite : ∀ a v, P (.memWrite a v)) (v : CellVal) :
    Issues P s.io (cellWrite v s).io := by
  rw [cellWrite_eq]
  exact .event _ (hwrite _ _) rfl

theorem cellReadDiscard_issues (hread : ∀ a v, P (.memRead a v)) : Issues P s.io (cellReadDiscard s).io := by
  rw [cellReadDiscard_eq]
  exact .event _ (hread _ _) rfl

theorem cellFetch_issues (hread : ∀ a v, P (.memRead a v)) (v : CellVal) : Issues P s.io (cellFetch v s).io := by
  rw [cellFetch_eq]
  exact .event _ (hread _ _) rfl

theorem rstopTurn_issues (hread : ∀ a v, P (.memRead a v)) (d : PassDir) (ops : List CellOp) (v : CellVal)
    (n : Nat) : Issues P s.io (rstopTurn d ops v n s).io := by
  have hfetch : Issues P s.io (cellFetch v (rstopBegin s)).io := by
    simpa only [rstopBegin_frame] using cellFetch_issues (rstopBegin s) hread v
  obtain ⟨-, h⟩ | ⟨-, -, h⟩ | ⟨-, -, h⟩ := rstopTurn_cases d ops v n s <;> rw [h] <;> simp [hfetch]

/-- R233: the operations of a pass read and write the memory, and no other. -/
theorem passStep_issues (hread : ∀ a v, P (.memRead a v)) (hwrite : ∀ a v, P (.memWrite a v)) (d : PassDir)
    (ops : List CellOp) : Issues P s.io (passStep d ops s).io := by
  unfold passStep cellOp
  split
  · split
    · simpa using cellWrite_issues s hwrite _
    · simpa [cellRead] using cellFetch_issues s hread _
    · simpa using cellReadDiscard_issues s hread
    · exact rstopTurn_issues s hread ..
  · simp

end

theorem memBody_issues {i : Instr} {pat : Option Byte} {phases : List MemPhase}
    (h : memTable i = some (pat, phases)) (top : Bool) (s : State) :
    Issues (Spec.mayIssue i) s.io (memBody top pat phases s).state.io := by
  have hmem := mayIssue_memory h
  obtain ⟨-, hcase⟩ | ⟨k, -, -, hcase⟩ | ⟨k, d, ops, -, -, -, hcase⟩ | ⟨k, ms, n, -, hwait, -, hcase⟩ |
      ⟨k, p, -, -, hcase⟩ := memBody_cases top pat phases s <;> rw [hcase]
  · simp
  · simp
  · exact passStep_issues s (fun a v => (hmem a v).1) (fun a v => (hmem a v).2) d ops
  · exact .event _ (mayIssue_delayMs h (List.mem_of_getElem? hwait)) rfl
  · unfold endPhase
    split <;> simp

/-! ### SUITE, FULLPASS, and O43 -/

/-- R327: a step of the suite issues what the step of its running call does. -/
theorem suiteBody_issues (top : Bool) (s : State) :
    Issues (Spec.mayIssue (Spec.algorithm .suite s)) s.io (suiteBody top s).state.io := by
  have hcall : Issues (Spec.mayIssue (Spec.algorithm .suite s)) s.io
      (memAlgorithmBody (suiteCall s.cfg s.seq.call) s).state.io := by
    cases hrow : memTable (suiteCall s.cfg s.seq.call) with
    | none => rw [memAlgorithmBody_of_none hrow]; exact issues_refl ..
    | some row =>
      rw [algorithm_suite (call_lt_of_memTable hrow), memAlgorithmBody_of_memTable hrow]
      exact memBody_issues hrow false s
  generalize hr : suiteBody top s = r
  have hstep : SuiteStep top s r := hr ▸ suiteBody_step top s
  cases hstep with
  | prologue | cancel => exact .silent rfl
  | call _ t h => simpa [h] using hcall
  | nextCall t h | last t h => simpa [h] using hcall

/-- A step of a body outside `FULLPASS` issues what the rules of the command that runs name. -/
theorem primitive_issues_algorithm {i : Instr} (hi : i ≠ .fullpass) (top : Bool) (s : State) :
    Issues (Spec.mayIssue (Spec.algorithm i s)) s.io (bodyIn top i s).state.io := by
  by_cases hsuite : i = .suite
  · subst hsuite
    exact suiteBody_issues top s
  rw [algorithm_of_ne hsuite hi]
  cases hrow : memTable i with
  | some row => rw [bodyIn_of_memTable hrow]; exact memBody_issues hrow top s
  | none => exact primitive_issues s top hrow hsuite hi

theorem bodyIn_issues_algorithm (i : Instr) (s : State) :
    Issues (Spec.mayIssue (Spec.algorithm i s)) s.io (bodyIn true i s).state.io := by
  by_cases hi : i = .fullpass
  case neg => exact primitive_issues_algorithm hi true s
  case pos =>
    subst hi
    rw [algorithm_fullpass]
    exact fullpassBody_issues s fun _ => primitive_issues_algorithm (stageCommand_ne_fullpass _) false s

/-- Settles O43: a step of a running command is one of its body, or of the body of its stage or call. -/
theorem issuedOperations : Obligations.IssuedOperations := by
  unfold Obligations.IssuedOperations
  intro i s t e h he
  obtain ⟨-, ⟨-, rfl⟩ | ⟨-, rfl⟩⟩ := exec_next h
  · have hio : (present i s).io = s.io := by simp
    exact absurd (he.symm.trans (congrArg Io.trace hio)) (List.cons_ne_self _ _)
  · rw [bodyOf_eq_bodyIn] at he
    have hio : (bodyIn true i s).state.io = (finish (bodyIn true i s)).io := by simp
    exact (bodyIn_issues_algorithm i s).of_cons ((congrArg Io.trace hio).trans he)

end Sys2Proof.Machine
end

section
/-! The vocabulary of the statements about the stuck-at tester, against the model's operations. -/

namespace Sys2Proof.Machine
open Sys2Proof

theorem setBitTo_eq_withBit {w : Nat} (v : BitVec w) (k : Nat) (b : Bool) : setBitTo v k b = Spec.withBit v k b := by
  cases b with
  | false => simp [setBitTo, Spec.withBit]
  | true =>
    simp only [setBitTo, Spec.withBit, if_true]
    generalize 1#w <<< k = bit
    refine BitVec.eq_of_getLsbD_eq fun j hj => ?_
    simp only [BitVec.getLsbD_or, BitVec.getLsbD_and, BitVec.getLsbD_not, hj]
    cases bit.getLsbD j <;> simp

theorem hasIssues_eq_decide {w : Nat} (high low : BitVec w) :
    FaultRecord.hasIssues ⟨high, low⟩ = decide (high ||| low ≠ 0#w) := by
  simp only [FaultRecord.hasIssues, bne, beq_eq_decide, decide_not]

theorem countSample_eq_sampled (hit : Bool) (s : State) : countSample hit s = Spec.sampled hit s := by
  cases hit
  · simp [countSample_eq, Spec.sampled]
  · rfl

end Sys2Proof.Machine
end

section
/-! The steps of the test of a bus (R155, R158) in the terms of the statements: O22 and O23. -/

namespace Sys2Proof.Machine
open Sys2Proof

/-! ### The record and the lines of a bus -/

/-- R153: the lines of the data bus that read 0. -/
theorem stuckLow_data (v : Byte) : ~~~v.setWidth 16 &&& Bus.data.ones = (~~~v).setWidth 16 := by
  have hones : Bus.data.ones = (BitVec.allOnes 8).setWidth 16 := by decide
  refine BitVec.eq_of_getLsbD_eq fun j hj => ?_
  simp only [hones, BitVec.getLsbD_and, BitVec.getLsbD_not, BitVec.getLsbD_setWidth, BitVec.getLsbD_allOnes,
    hj, decide_true, Bool.true_and, Bool.and_comm]

theorem stuckLow_address (v : BitVec 16) : ~~~v &&& Bus.address.ones = ~~~v := BitVec.and_allOnes

theorem writeBusRecord_data (high low : BitVec 16) (s : State) :
    writeBusRecord .data high low s = { s with res := { s.res with
      frd := ⟨high.setWidth 8, low.setWidth 8⟩
      issues := Spec.withBit s.res.issues 0 (decide (high.setWidth 8 ||| low.setWidth 8 ≠ 0#8)) } } := by
  rw [writeBusRecord, hasIssues_eq_decide, setBitTo_eq_withBit]
  rfl

theorem writeBusRecord_address (high low : BitVec 16) (s : State) :
    writeBusRecord .address high low s = { s with res := { s.res with
      fra := ⟨high, low⟩
      issues := Spec.withBit s.res.issues 1 (decide (high ||| low ≠ 0#16)) } } := by
  rw [writeBusRecord, hasIssues_eq_decide, setBitTo_eq_withBit]
  rfl

/-! ### One step of the test of a bus -/

section
variable (b : Bus) {s : State} (hs : s.Running)
include hs

theorem exec_bus : exec b.command s = .next (finish (verifyBusBody b true s)) := by
  cases b <;> exact exec_running hs.1 hs.2

theorem exec_bus_prologue (hp : s.seq.phase = 0) :
    exec b.command s = .next (Spec.atPhase 1 b.base (writeBusRecord b 0#16 0#16 s)) := by
  rw [exec_bus b hs, verifyBusBody, hp]
  rfl

/-! Phase 1, drive low. -/

theorem exec_bus_driveLow (hp : s.seq.phase = 1) : exec b.command s = .next (verifyDriveLow b true s) := by
  rw [exec_bus b hs, verifyBusBody, hp]
  rfl

theorem exec_bus_driveLow_dir (hp : s.seq.phase = 1) (ho : s.seq.op = 0) :
    exec b.command s = .next (Spec.atOp 1 (busDir b .output s)) := by
  rw [exec_bus_driveLow b hs hp, verifyDriveLow, ho]
  rfl

theorem exec_bus_driveLow_write (hp : s.seq.phase = 1) (ho : s.seq.op = 1) :
    exec b.command s = .next (Spec.atOp 2 (busWrite b 0#16 s)) := by
  rw [exec_bus_driveLow b hs hp, verifyDriveLow, ho]
  rfl

theorem exec_bus_driveLow_settle (hp : s.seq.phase = 1) (ho : s.seq.op = 2) :
    exec b.command s = .next (Spec.atOp 3 (Spec.waitSettle s)) := by
  rw [exec_bus_driveLow b hs hp, verifyDriveLow, ho]
  rfl

/-- R150 step 1: what reads as 1 is a candidate. -/
theorem exec_bus_driveLow_read (hp : s.seq.phase = 1) (ho : 3 ≤ s.seq.op) :
    exec b.command s = .next (Spec.lineBegins 0 b.width (Spec.atPhase 2 b.base (Spec.progressed 25 { busRead b s with
      work := { (busRead b s).work with cand := (busRead b s).work.rdv, sh := 0#16 } }))) := by
  obtain ⟨n, hn⟩ := Nat.exists_eq_add_of_le' ho
  rw [exec_bus_driveLow b hs hp, verifyDriveLow, hn]
  rfl

/-! Phase 2, the confirmation of the line at `POSK`. -/

theorem exec_bus_confirm (hp : s.seq.phase = 2) : exec b.command s = .next (verifyConfirm b true s) := by
  rw [exec_bus b hs, verifyBusBody, hp]
  rfl

theorem exec_bus_confirm_end (hp : s.seq.phase = 2) (ho : s.seq.op = 0) (hline : b.width ≤ busLine b s) :
    exec b.command s = .next (Spec.atPhase 3 b.base (Spec.progressed 50 s)) := by
  rw [exec_bus_confirm b hs hp, verifyConfirm, ho]
  simp only [hline, if_true]
  rfl

variable {k : Nat} (hk : k < b.width) (hline : busLine b s = k)
include hline

theorem exec_bus_confirm_read (hp : s.seq.phase = 2) (ho : 1 ≤ s.seq.op) :
    exec b.command s = .next (Spec.atOp 0 (Spec.sampled ((busRead b s).work.rdv.getLsbD k) (busRead b s))) := by
  obtain ⟨n, hn⟩ := Nat.exists_eq_add_of_le' ho
  rw [exec_bus_confirm b hs hp, verifyConfirm, hn, ← countSample_eq_sampled, hline]
  rfl

include hk

theorem exec_bus_confirm_next (hp : s.seq.phase = 2) (ho : s.seq.op = 0) (hcand : s.work.cand.getLsbD k = false) :
    exec b.command s = .next (Spec.lineBegins (k + 1) b.width (Spec.atPos (s.seq.posk + 1) 0 s)) := by
  subst hline
  rw [exec_bus_confirm b hs hp, verifyConfirm, ho]
  simp only [Nat.not_le.mpr hk, if_false, hcand, Bool.not_false, if_true]
  rfl

theorem exec_bus_confirm_wait (hp : s.seq.phase = 2) (ho : s.seq.op = 0) (hcand : s.work.cand.getLsbD k = true)
    (hmore : Spec.moreSamples s) : exec b.command s = .next (Spec.atOp 1 (Spec.waitConfirm s)) := by
  subst hline
  rw [exec_bus_confirm b hs hp, verifyConfirm, ho]
  simp only [Nat.not_le.mpr hk, hcand, (sampling_iff s).mpr hmore]
  rfl

/-- R14: the last sample of a candidate is taken. -/
theorem exec_bus_confirm_decide (hp : s.seq.phase = 2) (ho : s.seq.op = 0) (hcand : s.work.cand.getLsbD k = true)
    (hmore : ¬ Spec.moreSamples s) : exec b.command s = .next (verifyDecide b s) := by
  subst hline
  rw [exec_bus_confirm b hs hp, verifyConfirm, ho]
  simp [Nat.not_le.mpr hk, hcand, mt (sampling_iff s).mp hmore]

theorem exec_bus_confirm_stuck (hp : s.seq.phase = 2) (ho : s.seq.op = 0) (hcand : s.work.cand.getLsbD k = true)
    (hmore : ¬ Spec.moreSamples s) (hhits : Spec.enoughHits s.cfg.stuckPct s) :
    exec b.command s = .next (Spec.lineBegins (k + 1) b.width (Spec.atPos (s.seq.posk + 1) 0
      { s with work := { s.work with sh := s.work.sh ||| (1#16 <<< k) } })) := by
  rw [exec_bus_confirm_decide b hs hk hline hp ho hcand hmore, verifyDecide, if_pos ((confirmed_iff ..).mpr hhits)]
  subst hline
  rfl

theorem exec_bus_confirm_free (hp : s.seq.phase = 2) (ho : s.seq.op = 0) (hcand : s.work.cand.getLsbD k = true)
    (hmore : ¬ Spec.moreSamples s) (hhits : ¬ Spec.enoughHits s.cfg.stuckPct s) :
    exec b.command s = .next (Spec.lineBegins (k + 1) b.width (Spec.atPos (s.seq.posk + 1) 0 s)) := by
  rw [exec_bus_confirm_decide b hs hk hline hp ho hcand hmore, verifyDecide, if_neg (mt (confirmed_iff ..).mp hhits)]
  subst hline
  rfl

omit hk hline

/-! Phase 3, drive high, and phase 4, cleanup. -/

theorem exec_bus_driveHigh (hp : s.seq.phase = 3) : exec b.command s = .next (verifyDriveHigh b true s) := by
  rw [exec_bus b hs, verifyBusBody, hp]
  rfl

theorem exec_bus_driveHigh_write (hp : s.seq.phase = 3) (ho : s.seq.op = 0) :
    exec b.command s = .next (Spec.atOp 1 (busWrite b b.ones s)) := by
  rw [exec_bus_driveHigh b hs hp, verifyDriveHigh, ho]
  rfl

theorem exec_bus_driveHigh_settle (hp : s.seq.phase = 3) (ho : s.seq.op = 1) :
    exec b.command s = .next (Spec.atOp 2 (Spec.waitSettle s)) := by
  rw [exec_bus_driveHigh b hs hp, verifyDriveHigh, ho]
  rfl

/-- R153: what reads as 0 is stuck low. -/
theorem exec_bus_driveHigh_read (hp : s.seq.phase = 3) (ho : 2 ≤ s.seq.op) :
    exec b.command s = .next (Spec.atPhase 4 b.base (Spec.progressed 75 { busRead b s with
      work := { (busRead b s).work with sl := ~~~(busRead b s).work.rdv &&& b.ones } })) := by
  obtain ⟨n, hn⟩ := Nat.exists_eq_add_of_le' ho
  rw [exec_bus_driveHigh b hs hp, verifyDriveHigh, hn]
  rfl

theorem exec_bus_cleanup (hp : s.seq.phase = 4) : exec b.command s = .next (finish (verifyCleanup b s)) := by
  rw [exec_bus b hs, verifyBusBody, hp]
  rfl

theorem exec_bus_cleanup_write (hp : s.seq.phase = 4) (ho : s.seq.op = 0) :
    exec b.command s = .next (Spec.atOp 1 (busWrite b 0#16 s)) := by
  rw [exec_bus_cleanup b hs hp, verifyCleanup, ho]
  rfl

theorem exec_bus_cleanup_dir (hp : s.seq.phase = 4) (ho : s.seq.op = 1) :
    exec b.command s = .next (Spec.atOp 2 (busDir b .input s)) := by
  rw [exec_bus_cleanup b hs hp, verifyCleanup, ho]
  rfl

theorem exec_bus_cleanup_record (hp : s.seq.phase = 4) (ho : 2 ≤ s.seq.op) :
    exec b.command s = .next (Spec.completed (writeBusRecord b s.work.sh s.work.sl s)) := by
  obtain ⟨n, hn⟩ := Nat.exists_eq_add_of_le' ho
  rw [exec_bus_cleanup b hs hp, verifyCleanup, hn]
  rfl

end

/-! ### O22 and O23 -/

theorem busLine_data {s : State} {k : Nat} (h : s.seq.posk = 16 + k) : busLine .data s = k := by
  simp [busLine, Bus.base, h]

/-- Settles O22: the steps of a bus test, on the data bus. -/
theorem verifyDataSteps : Obligations.VerifyDataSteps := by
  unfold Obligations.VerifyDataSteps
  intro s hs
  refine ⟨fun hp => ?prologue, exec_bus_driveLow_dir .data hs, exec_bus_driveLow_write .data hs,
    exec_bus_driveLow_settle .data hs, exec_bus_driveLow_read .data hs,
    fun hp ho hk => exec_bus_confirm_end .data hs hp ho (Nat.le_sub_of_add_le' hk),
    fun k hk hp ho hpos => exec_bus_confirm_next .data hs hk (busLine_data hpos) hp ho,
    fun k hk hp ho hpos => exec_bus_confirm_wait .data hs hk (busLine_data hpos) hp ho,
    fun k hk hp ho hpos => ?sample,
    fun k hk hp ho hpos => exec_bus_confirm_stuck .data hs hk (busLine_data hpos) hp ho,
    fun k hk hp ho hpos => exec_bus_confirm_free .data hs hk (busLine_data hpos) hp ho,
    exec_bus_driveHigh_write .data hs, exec_bus_driveHigh_settle .data hs, fun hp ho => ?stuckLow,
    exec_bus_cleanup_write .data hs, exec_bus_cleanup_dir .data hs, fun hp ho => ?record⟩
  case prologue =>
    have h := exec_bus_prologue .data hs hp
    rw [writeBusRecord_data] at h
    exact h
  case sample =>
    have hbit : (busRead .data s).work.rdv.getLsbD k = (Spec.byteRead s).getLsbD k := by
      change ((Spec.byteRead s).setWidth 16).getLsbD k = _
      rw [BitVec.getLsbD_setWidth, decide_eq_true (by omega : k < 16), Bool.true_and]
    rw [← hbit]
    exact exec_bus_confirm_read .data hs (busLine_data hpos) hp ho
  case stuckLow =>
    rw [← stuckLow_data]
    exact exec_bus_driveHigh_read .data hs hp ho
  case record =>
    rw [← writeBusRecord_data]
    exact exec_bus_cleanup_record .data hs hp ho

/-- Settles O23: the steps of a bus test, on the address bus. -/
theorem verifyAddrSteps : Obligations.VerifyAddrSteps := by
  unfold Obligations.VerifyAddrSteps
  intro s hs
  refine ⟨fun hp => ?prologue, exec_bus_driveLow_dir .address hs, exec_bus_driveLow_write .address hs,
    exec_bus_driveLow_settle .address hs, exec_bus_driveLow_read .address hs,
    exec_bus_confirm_end .address hs,
    fun k hk hp ho hpos => exec_bus_confirm_next .address hs hk hpos hp ho,
    fun k hk hp ho hpos => exec_bus_confirm_wait .address hs hk hpos hp ho,
    fun k hk hp ho hpos => exec_bus_confirm_read .address hs hpos hp ho,
    fun k hk hp ho hpos => exec_bus_confirm_stuck .address hs hk hpos hp ho,
    fun k hk hp ho hpos => exec_bus_confirm_free .address hs hk hpos hp ho,
    exec_bus_driveHigh_write .address hs, exec_bus_driveHigh_settle .address hs, fun hp ho => ?stuckLow,
    exec_bus_cleanup_write .address hs, exec_bus_cleanup_dir .address hs, fun hp ho => ?record⟩
  case prologue =>
    have h := exec_bus_prologue .address hs hp
    rw [writeBusRecord_address] at h
    exact h
  case stuckLow =>
    rw [← stuckLow_address s.answer]
    exact exec_bus_driveHigh_read .address hs hp ho
  case record =>
    rw [← writeBusRecord_address]
    exact exec_bus_cleanup_record .address hs hp ho

end Sys2Proof.Machine
end

section
/-! The steps of the test of the control set (R161 to R164) in the terms of the statements: O24. -/

namespace Sys2Proof.Machine
open Sys2Proof

/-! ### The signals and the samples -/

/-- R161: the signal of class G that stands at a position. -/
theorem sigG_of_posk {g : Sig} (hg : g.idx.val ≤ 6) {k : Nat} (hk : k = 24 + g.idx.val) : sigG k = g := by
  subst hk
  cases g with
  | ras | mux | cas | rd | wr | ioIn | ioOut => rfl
  | sysRes | intAck | int | test | wait => exact absurd hg (by decide)

/-- R161: the write-only signal that stands at a position. -/
theorem sigW_of_posk {g : Sig} (hg : g = .int ∨ g = .wait) {k : Nat} (hk : k = 24 + g.idx.val) : sigW k = g := by
  subst hk
  obtain rfl | rfl := hg <;> rfl

theorem ctlRead_eq_readCtl (g : Sig) (s : State) : ctlRead g s = Spec.readCtl g s := by
  rw [ctlRead_eq, Spec.readCtl, Spec.readBack, Spec.level]
  cases s.answer.getLsbD 0 <;> rfl

/-- R152: what reads inactive while driven active is a candidate. -/
theorem markCand_ctlRead (g : Sig) (s : State) :
    markCand g (ctlRead g s) = { Spec.readCtl g s with work := { s.work with
      rdv := if Spec.level s then 1#16 else 0#16
      cand := if Spec.level s then s.work.cand else s.work.cand ||| (1#16 <<< g.idx.val) } } := by
  rw [markCand, readTrue_ctlRead, ctlRead_eq_readCtl]
  rfl

/-- R152, R163: what reads active while nothing drives it so is stuck low. -/
theorem markLow_ctlRead (g : Sig) (s : State) :
    markLow g (ctlRead g s) = { Spec.readCtl g s with work := { s.work with
      rdv := if Spec.level s then 1#16 else 0#16
      sl := if Spec.level s then s.work.sl ||| (1#16 <<< g.idx.val) else s.work.sl } } := by
  rw [markLow, readTrue_ctlRead, ctlRead_eq_readCtl]
  rfl

/-- R161: one signal further on the walk over `G`. -/
theorem nextG_eq_atPos {n : Nat} (o : Nat) {s : State} (h : s.seq.op = n) :
    nextG o s = (if s.seq.posk < 30 then Spec.atPos (s.seq.posk + 1) n else Spec.atPos 24 o) s := by
  subst h
  unfold nextG
  split <;> rfl

/-- R151: the signal after `g` is the line after `g`'s. -/
theorem ctrlNextLine_eq {g : Sig} {s : State} (hpos : s.seq.posk = 24 + g.idx.val) :
    ctrlNextLine s = Spec.lineBegins (g.idx.val + 1) 7 (Spec.atPos (s.seq.posk + 1) 0 s) := by
  have hline : s.seq.posk - 24 = g.idx.val := by omega
  rw [ctrlNextLine, hline]
  rfl

theorem writeCtrlRecord_eq (high low : BitVec 12) (s : State) :
    writeCtrlRecord high low s = { s with res := { s.res with
      frc := ⟨high, low⟩
      issues := Spec.withBit s.res.issues 2 (decide (high ||| low ≠ 0#12)) } } := by
  rw [writeCtrlRecord, hasIssues_eq_decide, setBitTo_eq_withBit]
  rfl

/-! ### One step of the test of the control set -/

section
variable {s : State} (hs : s.Running)
include hs

theorem exec_ctrl : exec .verifyCtrl s = .next (finish (verifyCtrlBody true s)) := exec_running hs.1 hs.2

theorem exec_ctrl_prologue (hp : s.seq.phase = 0) :
    exec .verifyCtrl s = .next (Spec.atPhase 1 24 { s with
      res := { s.res with frc := ⟨0#12, 0#12⟩, issues := Spec.withBit s.res.issues 2 false }
      work := { s.work with cand := 0#16, sh := 0#16, sl := 0#16 } }) := by
  rw [exec_ctrl hs, verifyCtrlBody, hp]
  dsimp only
  rw [ctrlPrologue, writeCtrlRecord_eq]
  rfl

/-! Phase 1, drive low. -/

theorem exec_ctrl_driveLow (hp : s.seq.phase = 1) : exec .verifyCtrl s = .next (ctrlDriveLow true s) := by
  rw [exec_ctrl hs, verifyCtrlBody, hp]
  rfl

theorem exec_ctrl_driveLow_settle (hp : s.seq.phase = 1) (ho : s.seq.op = 2) :
    exec .verifyCtrl s = .next (Spec.atPos 24 3 (Spec.waitSettle s)) := by
  rw [exec_ctrl_driveLow hs hp, ctrlDriveLow, ho]
  rfl

variable {g : Sig} (hg : g.idx.val ≤ 6) (hpos : s.seq.posk = 24 + g.idx.val)
include hg hpos

theorem exec_ctrl_driveLow_dir (hp : s.seq.phase = 1) (ho : s.seq.op = 0) :
    exec .verifyCtrl s = .next ((if s.seq.posk < 30 then Spec.atPos (s.seq.posk + 1) 0 else Spec.atPos 24 1)
      (Spec.setDir g .output s)) := by
  rw [exec_ctrl_driveLow hs hp, ctrlDriveLow, ho, sigG_of_posk hg hpos]
  exact congrArg _ (nextG_eq_atPos 1 ho)

theorem exec_ctrl_driveLow_write (hp : s.seq.phase = 1) (ho : s.seq.op = 1) :
    exec .verifyCtrl s = .next ((if s.seq.posk < 30 then Spec.atPos (s.seq.posk + 1) 1 else Spec.atPos 24 2)
      (Spec.setOut g true s)) := by
  rw [exec_ctrl_driveLow hs hp, ctrlDriveLow, ho, sigG_of_posk hg hpos]
  exact congrArg _ (nextG_eq_atPos 2 ho)

/-- R161: a signal is read; after the last of the seven the confirmation begins. -/
theorem exec_ctrl_driveLow_read (hp : s.seq.phase = 1) (ho : 3 ≤ s.seq.op) :
    exec .verifyCtrl s = .next (
      if s.seq.posk < 30 then Spec.atPos (s.seq.posk + 1) 3 (markCand g (ctlRead g s))
      else Spec.lineBegins 0 7 (Spec.atPhase 2 24 (Spec.progressed 25 (markCand g (ctlRead g s))))) := by
  obtain ⟨n, hn⟩ := Nat.exists_eq_add_of_le' ho
  rw [exec_ctrl_driveLow hs hp, ctrlDriveLow, hn, sigG_of_posk hg hpos]
  rfl

omit hg hpos

/-! Phase 2, the confirmation of the signal at `POSK`. -/

theorem exec_ctrl_confirm (hp : s.seq.phase = 2) : exec .verifyCtrl s = .next (ctrlConfirm true s) := by
  rw [exec_ctrl hs, verifyCtrlBody, hp]
  rfl

theorem exec_ctrl_confirm_end (hp : s.seq.phase = 2) (ho : s.seq.op = 0) (hend : 31 ≤ s.seq.posk) :
    exec .verifyCtrl s = .next (Spec.atPhase 3 24 (Spec.progressed 50 s)) := by
  rw [exec_ctrl_confirm hs hp, ctrlConfirm, ho]
  simp only [show 30 < s.seq.posk from hend, if_true]
  rfl

include hg hpos

theorem exec_ctrl_confirm_read (hp : s.seq.phase = 2) (ho : 1 ≤ s.seq.op) :
    exec .verifyCtrl s = .next (Spec.atOp 0 (Spec.sampled (!Spec.level s) (Spec.readCtl g s))) := by
  obtain ⟨n, hn⟩ := Nat.exists_eq_add_of_le' ho
  rw [exec_ctrl_confirm hs hp, ctrlConfirm, hn, sigG_of_posk hg hpos]
  dsimp only
  rw [readTrue_ctlRead, ctlRead_eq_readCtl, countSample_eq_sampled]
  rfl

theorem exec_ctrl_confirm_next (hp : s.seq.phase = 2) (ho : s.seq.op = 0)
    (hcand : s.work.cand.getLsbD g.idx.val = false) :
    exec .verifyCtrl s = .next (Spec.lineBegins (g.idx.val + 1) 7 (Spec.atPos (s.seq.posk + 1) 0 s)) := by
  have hend : ¬ 30 < s.seq.posk := by omega
  rw [exec_ctrl_confirm hs hp, ctrlConfirm, ho, sigG_of_posk hg hpos, ← ctrlNextLine_eq hpos]
  simp [hend, hcand]

theorem exec_ctrl_confirm_wait (hp : s.seq.phase = 2) (ho : s.seq.op = 0)
    (hcand : s.work.cand.getLsbD g.idx.val = true) (hmore : Spec.moreSamples s) :
    exec .verifyCtrl s = .next (Spec.atOp 1 (Spec.waitConfirm s)) := by
  have hend : ¬ 30 < s.seq.posk := by omega
  rw [exec_ctrl_confirm hs hp, ctrlConfirm, ho, sigG_of_posk hg hpos]
  simp only [hend, hcand, (sampling_iff s).mpr hmore]
  rfl

/-- R14: the last sample of a candidate is taken. -/
theorem exec_ctrl_confirm_decide (hp : s.seq.phase = 2) (ho : s.seq.op = 0)
    (hcand : s.work.cand.getLsbD g.idx.val = true) (hmore : ¬ Spec.moreSamples s) :
    exec .verifyCtrl s = .next (ctrlDecide s) := by
  have hend : ¬ 30 < s.seq.posk := by omega
  rw [exec_ctrl_confirm hs hp, ctrlConfirm, ho, sigG_of_posk hg hpos]
  simp [hend, hcand, mt (sampling_iff s).mp hmore]

theorem exec_ctrl_confirm_stuck (hp : s.seq.phase = 2) (ho : s.seq.op = 0)
    (hcand : s.work.cand.getLsbD g.idx.val = true) (hmore : ¬ Spec.moreSamples s)
    (hhits : Spec.enoughHits s.cfg.stuckPct s) :
    exec .verifyCtrl s = .next (Spec.lineBegins (g.idx.val + 1) 7 (Spec.atPos (s.seq.posk + 1) 0
      { s with work := { s.work with sh := s.work.sh ||| (1#16 <<< g.idx.val) } })) := by
  rw [exec_ctrl_confirm_decide hs hg hpos hp ho hcand hmore, ctrlDecide, if_pos ((confirmed_iff ..).mpr hhits),
    sigG_of_posk hg hpos]
  exact congrArg _ (ctrlNextLine_eq hpos)

theorem exec_ctrl_confirm_free (hp : s.seq.phase = 2) (ho : s.seq.op = 0)
    (hcand : s.work.cand.getLsbD g.idx.val = true) (hmore : ¬ Spec.moreSamples s)
    (hhits : ¬ Spec.enoughHits s.cfg.stuckPct s) :
    exec .verifyCtrl s = .next (Spec.lineBegins (g.idx.val + 1) 7 (Spec.atPos (s.seq.posk + 1) 0 s)) := by
  rw [exec_ctrl_confirm_decide hs hg hpos hp ho hcand hmore, ctrlDecide, if_neg (mt (confirmed_iff ..).mp hhits),
    ctrlNextLine_eq hpos]

omit hg hpos

/-! Phase 3, drive high. -/

theorem exec_ctrl_driveHigh (hp : s.seq.phase = 3) : exec .verifyCtrl s = .next (ctrlDriveHigh true s) := by
  rw [exec_ctrl hs, verifyCtrlBody, hp]
  rfl

theorem exec_ctrl_driveHigh_settle (hp : s.seq.phase = 3) (ho : s.seq.op = 1) :
    exec .verifyCtrl s = .next (Spec.atPos 24 2 (Spec.waitSettle s)) := by
  rw [exec_ctrl_driveHigh hs hp, ctrlDriveHigh, ho]
  rfl

theorem exec_ctrl_writeOnly_settle (hp : s.seq.phase = 3) (ho : s.seq.op = 4) :
    exec .verifyCtrl s = .next (Spec.atOp 5 (Spec.waitSettle s)) := by
  rw [exec_ctrl_driveHigh hs hp, ctrlDriveHigh, ho]
  rfl

include hg hpos

theorem exec_ctrl_driveHigh_write (hp : s.seq.phase = 3) (ho : s.seq.op = 0) :
    exec .verifyCtrl s = .next ((if s.seq.posk < 30 then Spec.atPos (s.seq.posk + 1) 0 else Spec.atPos 24 1)
      (Spec.setOut g false s)) := by
  rw [exec_ctrl_driveHigh hs hp, ctrlDriveHigh, ho, sigG_of_posk hg hpos]
  exact congrArg _ (nextG_eq_atPos 1 ho)

theorem exec_ctrl_driveHigh_read (hp : s.seq.phase = 3) (ho : s.seq.op = 2) :
    exec .verifyCtrl s = .next ((if s.seq.posk < 30 then Spec.atPos (s.seq.posk + 1) 2 else Spec.atPos 33 3)
      { Spec.readCtl g s with
        work := { s.work with
          rdv := if Spec.level s then 1#16 else 0#16
          sl := if Spec.level s then s.work.sl ||| (1#16 <<< g.idx.val) else s.work.sl } }) := by
  rw [exec_ctrl_driveHigh hs hp, ctrlDriveHigh, ho, sigG_of_posk hg hpos, ite_apply, ← markLow_ctlRead]
  rfl

omit hg

/-! Phase 3, the write-only signals (R162). -/

variable (hw : g = .int ∨ g = .wait)
include hw

theorem exec_ctrl_writeOnly_input (hp : s.seq.phase = 3) (ho : s.seq.op = 3) :
    exec .verifyCtrl s = .next (Spec.atOp 4 (Spec.setDir g .input s)) := by
  rw [exec_ctrl_driveHigh hs hp, ctrlDriveHigh, ho, sigW_of_posk hw hpos]
  rfl

theorem exec_ctrl_writeOnly_read (hp : s.seq.phase = 3) (ho : s.seq.op = 5) :
    exec .verifyCtrl s = .next (Spec.atOp 6 { Spec.readCtl g s with
      work := { s.work with
        rdv := if Spec.level s then 1#16 else 0#16
        sl := if Spec.level s then s.work.sl ||| (1#16 <<< g.idx.val) else s.work.sl } }) := by
  rw [exec_ctrl_driveHigh hs hp, ctrlDriveHigh, ho, sigW_of_posk hw hpos, ← markLow_ctlRead]
  rfl

/-- R162: a write-only signal is an output again; after `INT` comes `WAIT`, after it the read-only signals. -/
theorem exec_ctrl_writeOnly_output (hp : s.seq.phase = 3) (ho : s.seq.op = 6) :
    exec .verifyCtrl s = .next ((if g = .int then Spec.atPos 35 3 else Spec.atPos 31 7)
      (Spec.setDir g .output s)) := by
  rw [exec_ctrl_driveHigh hs hp, ctrlDriveHigh, ho, sigW_of_posk hw hpos]
  obtain rfl | rfl := hw
  · simp only [show s.seq.posk = 33 from hpos, if_true]
    rfl
  · simp only [show s.seq.posk = 35 from hpos]
    rfl

omit hpos hw

/-! Phase 3, the read-only signals (R163). -/

theorem exec_ctrl_readOnly (hp : s.seq.phase = 3) (ho : 7 ≤ s.seq.op) :
    exec .verifyCtrl s = .next (
      if s.seq.posk = 31 then Spec.atPos 32 7 (markLow (sigRO s.seq.posk) (ctlRead (sigRO s.seq.posk) s))
      else Spec.atPhase 4 24 (Spec.progressed 75 (markLow (sigRO s.seq.posk) (ctlRead (sigRO s.seq.posk) s)))) := by
  obtain ⟨n, hn⟩ := Nat.exists_eq_add_of_le' ho
  rw [exec_ctrl_driveHigh hs hp, ctrlDriveHigh, hn]
  rfl

/-! Phase 4, cleanup. -/

theorem exec_ctrl_cleanup (hp : s.seq.phase = 4) : exec .verifyCtrl s = .next (finish (ctrlCleanup s)) := by
  rw [exec_ctrl hs, verifyCtrlBody, hp]
  rfl

theorem exec_ctrl_cleanup_dir (hg : g.idx.val ≤ 6) (hpos : s.seq.posk = 24 + g.idx.val) (hp : s.seq.phase = 4)
    (ho : s.seq.op = 0) :
    exec .verifyCtrl s = .next ((if s.seq.posk < 30 then Spec.atPos (s.seq.posk + 1) 0 else Spec.atPos 24 1)
      (Spec.setDir g .input s)) := by
  rw [exec_ctrl_cleanup hs hp, ctrlCleanup, ho, sigG_of_posk hg hpos]
  exact congrArg _ (nextG_eq_atPos 1 ho)

theorem exec_ctrl_cleanup_record (hp : s.seq.phase = 4) (ho : 1 ≤ s.seq.op) :
    exec .verifyCtrl s = .next (Spec.completed { s with res := { s.res with
      frc := ⟨s.work.sh.setWidth 12, s.work.sl.setWidth 12⟩
      issues := Spec.withBit s.res.issues 2
        (decide (s.work.sh.setWidth 12 ||| s.work.sl.setWidth 12 ≠ 0#12)) } }) := by
  obtain ⟨n, hn⟩ := Nat.exists_eq_add_of_le' ho
  rw [exec_ctrl_cleanup hs hp, ctrlCleanup, hn, ← writeCtrlRecord_eq]
  rfl

end

/-! ### O24 -/

/-- Settles O24: the steps of the control set, phase by phase. -/
theorem verifyCtrlSteps : Obligations.VerifyCtrlSteps := by
  unfold Obligations.VerifyCtrlSteps
  intro s hs
  refine ⟨exec_ctrl_prologue hs, fun _ => exec_ctrl_driveLow_dir hs, fun _ => exec_ctrl_driveLow_write hs,
    exec_ctrl_driveLow_settle hs, fun g hg hpos hp ho => ?candidate, fun hpos hp ho => ?lastCandidate,
    exec_ctrl_confirm_end hs, fun _ => exec_ctrl_confirm_next hs, fun _ => exec_ctrl_confirm_wait hs,
    fun _ => exec_ctrl_confirm_read hs, fun _ => exec_ctrl_confirm_stuck hs, fun _ => exec_ctrl_confirm_free hs,
    fun _ => exec_ctrl_driveHigh_write hs, exec_ctrl_driveHigh_settle hs, fun _ => exec_ctrl_driveHigh_read hs,
    fun _ hw hpos => exec_ctrl_writeOnly_input hs hpos hw, exec_ctrl_writeOnly_settle hs,
    fun _ hw hpos => exec_ctrl_writeOnly_read hs hpos hw, fun _ hw hpos => exec_ctrl_writeOnly_output hs hpos hw,
    fun hpos hp ho => ?sysRes, fun hpos hp ho => ?intAck, fun _ => exec_ctrl_cleanup_dir hs,
    exec_ctrl_cleanup_record hs⟩
  case candidate =>
    have hlast : s.seq.posk < 30 := by omega
    rw [exec_ctrl_driveLow_read hs (by omega) hpos hp ho, if_pos hlast, markCand_ctlRead]
  case lastCandidate =>
    rw [exec_ctrl_driveLow_read (g := .ioOut) hs (by decide) hpos hp ho, if_neg (by omega), markCand_ctlRead]
    rfl
  case sysRes =>
    rw [exec_ctrl_readOnly hs hp ho, if_pos hpos, hpos, markLow_ctlRead]
    rfl
  case intAck =>
    rw [exec_ctrl_readOnly hs hp ho, if_neg (by omega), hpos, markLow_ctlRead]
    rfl

end Sys2Proof.Machine
end

section
/-! The fourteen reads of a snapshot (R182) in the terms of the statements, and what they leave: the answers packed,
the events in the layout's order, nothing else. -/

namespace Sys2Proof.Machine
open Sys2Proof

/-! ### One read -/

/-- R182: the twelve control signals have the positions of R31's list. -/
theorem snapSig_eq_signals {k : Nat} (hk : k < 12) :
    snapSig k = Spec.signals.getD k .wait ∧ (snapSig k).idx.val = k := by
  interval_cases k <;> exact ⟨rfl, rfl⟩

theorem ofBool_setWidth (b : Bool) : (BitVec.ofBool b).setWidth 64 = if b then 1#64 else 0#64 := by
  cases b <;> rfl

theorem snapRead_eq_snapshotRead {k : Nat} (hk : k < 14) (s : State) : snapRead k s = Spec.snapshotRead k s := by
  match k with
  | 0 | 1 => rfl
  | k + 2 =>
    obtain ⟨hsig, hidx⟩ := snapSig_eq_signals (show k < 12 by omega)
    rw [snapRead, hidx, hsig, readTrue_ctlRead, ctlRead_eq_readCtl, ofBool_setWidth]
    rfl

/-- R182: the snapshot `v` with the answer `x` of read `k` put into it. -/
def packRead (v : Word64) : Nat → BitVec 16 → Word64
  | 0, x => x.setWidth 64
  | 1, x => v ||| ((x.setWidth 8).setWidth 64 <<< 16)
  | k + 2, x => v ||| ((if x.getLsbD 0 then 1#64 else 0#64) <<< (24 + k))

/-- R182: the event of read `k` that is answered `x`. -/
def readEvent : Nat → BitVec 16 → Event
  | 0, x => .addrRead x
  | 1, x => .dataRead (x.setWidth 8)
  | k + 2, x => .ctlRead (Spec.signals.getD k .wait) (x.getLsbD 0)

theorem answer_of_cons {s : State} {x : BitVec 16} {l : List (BitVec 16)} (h : s.answers = x :: l) :
    s.answer = x := by
  rw [State.answer, h]

/-- A read packs its answer and leaves its event; of the other registers it writes `RDV` alone. -/
theorem snapshotRead_eq (k : Nat) {s : State} {x : BitVec 16} {l : List (BitVec 16)} (h : s.answers = x :: l) :
    ∃ r, Spec.snapshotRead k s = { s with
      work := { s.work with rdv := r, cur := packRead s.work.cur k x }
      answers := l, answered := s.answered + 1, trace := readEvent k x :: s.trace } := by
  have hx := answer_of_cons h
  match k with
  | 0 => exact ⟨x, by simp [Spec.snapshotRead, Spec.readAddr, Spec.readBack, h, hx, packRead, readEvent]⟩
  | 1 =>
    exact ⟨(x.setWidth 8).setWidth 16, by
      simp [Spec.snapshotRead, Spec.readData, Spec.readBack, Spec.byteRead, h, hx, packRead, readEvent]⟩
  | k + 2 =>
    exact ⟨if x.getLsbD 0 then 1#16 else 0#16, by
      simp [Spec.snapshotRead, Spec.readCtl, Spec.readBack, Spec.level, h, hx, packRead, readEvent]⟩

/-- The model's way to the next step, and the statements'. -/
theorem gotoOp_eq_atOp (o : Nat) (s : State) : s.gotoOp o = Spec.atOp o s := rfl

/-! ### The twelve control reads -/

/-- R182: the control bits of a snapshot after the first `k` control reads. -/
def controlBits (c : Fin 12 → BitVec 16) (k : Nat) : Word64 :=
  ((List.finRange 12).take k).foldl
    (fun m i => m ||| ((if (c i).getLsbD 0 then 1#64 else 0#64) <<< (24 + i.val))) 0#64

/-- R182: the events of the first `k` control reads, the latest first. -/
def controlEvents (c : Fin 12 → BitVec 16) (k : Nat) : List Event :=
  (((List.finRange 12).take k).map fun i =>
    Event.ctlRead (Spec.signals.getD i.val .wait) ((c i).getLsbD 0)).reverse

theorem take_finRange_succ {n k : Nat} (hk : k < n) :
    (List.finRange n).take (k + 1) = (List.finRange n).take k ++ [⟨k, hk⟩] := by
  simp [List.take_add_one, hk]

theorem controlBits_succ (c : Fin 12 → BitVec 16) {k : Nat} (hk : k < 12) (v : Word64) :
    v ||| controlBits c (k + 1) = packRead (v ||| controlBits c k) (k + 2) (c ⟨k, hk⟩) := by
  simp only [controlBits, take_finRange_succ hk, List.foldl_append, List.foldl_cons, List.foldl_nil, packRead,
    BitVec.or_assoc]

theorem controlEvents_succ (c : Fin 12 → BitVec 16) {k : Nat} (hk : k < 12) :
    controlEvents c (k + 1) = readEvent (k + 2) (c ⟨k, hk⟩) :: controlEvents c k := by
  simp [controlEvents, take_finRange_succ hk, readEvent]

theorem drop_ofFn {α : Type} {n k : Nat} (f : Fin n → α) (hk : k < n) :
    (List.ofFn f).drop k = f ⟨k, hk⟩ :: (List.ofFn f).drop (k + 1) := by
  rw [List.drop_eq_getElem_cons (by simpa using hk), List.getElem_ofFn]

/-- R182: after the last read the snapshot is the packed one. -/
theorem snapshot_eq (a d : BitVec 16) (c : Fin 12 → BitVec 16) (v : Word64) :
    Spec.snapshot a d c = packRead (packRead v 0 a) 1 d ||| controlBits c 12 := rfl

end Sys2Proof.Machine
end

section
/-! `SAMPLE` (R183): its steps (O16), and the whole run from acceptance to completion (O17). -/

namespace Sys2Proof.Machine
open Sys2Proof

/-! ### O16 -/

section
variable {s : State} (hs : s.Running)
include hs

theorem exec_sample_read (hop : s.seq.op < 14) :
    exec .sample s = .next (Spec.atOp (s.seq.op + 1) (Spec.snapshotRead s.seq.op s)) := by
  rw [exec_running hs.1 hs.2, bodyOf, sampleBody, snapReads, if_pos hop, snapRead_eq_snapshotRead hop, finish_more,
    gotoOp_eq_atOp]

theorem exec_sample_end (hop : 14 ≤ s.seq.op) :
    exec .sample s = .next (Spec.completed { s with res := { s.res with snap := s.work.cur } }) := by
  rw [exec_running hs.1 hs.2, bodyOf, sampleBody, snapReads, if_neg (Nat.not_lt.mpr hop)]
  rfl

end

/-- Settles O16: a read or the end, by the position. -/
theorem sampleSteps : Obligations.SampleSteps := by
  unfold Obligations.SampleSteps
  exact fun _ hs => ⟨exec_sample_read hs, exec_sample_end hs⟩

/-! ### Runs of a command, one after another -/

theorem execN_succ {i : Instr} {s t : State} (h : exec i s = .next t) (n : Nat) :
    Spec.execN i (n + 1) s = Spec.execN i n t := by
  simp only [Spec.execN, h]

theorem execN_trans {i : Instr} {m : Nat} {s t : State} (h : Spec.execN i m s = .next t) (n : Nat) :
    Spec.execN i (m + n) s = Spec.execN i n t := by
  induction m generalizing s with
  | zero =>
    cases h
    rw [Nat.zero_add]
  | succ m ih =>
    cases hexec : exec i s with
    | next u =>
      rw [execN_succ hexec] at h
      rw [Nat.add_right_comm, execN_succ hexec, ih h]
    | fault r | refused r => simp [Spec.execN, hexec] at h

/-! ### O17: the reads in order -/

/-- `t` is `s` after the first `n` reads of `SAMPLE`: `v` is the snapshot as it stands, `events` are the reads, the
latest first, and `left` is what the environment answers next. -/
structure Snapped (s : State) (n : Nat) (v : Word64) (events : List Event) (left : List (BitVec 16))
    (t : State) : Prop where
  state : t = { s with
    seq := { s.seq with op := n }, work := t.work, answers := left, answered := s.answered + n
    trace := events ++ s.trace }
  cur : t.work.cur = v

section
variable {s t : State} {n : Nat} {v : Word64} {events : List Event} {left : List (BitVec 16)}

theorem snapped_accept (w : Word64) (s : State) :
    Snapped (accept w s) 0 s.work.cur [] s.answers (accept w s) := ⟨rfl, rfl⟩

theorem Snapped.running (h : Snapped s n v events left t) (hs : s.Running) : t.Running := by
  rw [h.state]
  exact hs

theorem Snapped.op_eq (h : Snapped s n v events left t) : t.seq.op = n := congrArg (·.seq.op) h.state

theorem Snapped.res_eq (h : Snapped s n v events left t) : t.res = s.res := by rw [h.state]

/-- One more read is taken. -/
theorem Snapped.read {x : BitVec 16} (h : Snapped s n v events (x :: left) t) (hs : s.Running) (hn : n < 14) :
    ∃ u, exec .sample t = .next u ∧ Snapped s (n + 1) (packRead v n x) (readEvent n x :: events) left u := by
  obtain ⟨r, hread⟩ := snapshotRead_eq n (congrArg State.answers h.state)
  have hexec := exec_sample_read (h.running hs) (by rw [h.op_eq]; exact hn)
  rw [h.op_eq, hread] at hexec
  refine ⟨_, hexec, ?_, by rw [← h.cur]; rfl⟩
  rw [h.state]
  rfl

/-- The control reads, one after another. -/
theorem Snapped.controlReads {c : Fin 12 → BitVec 16} (h : Snapped s 2 v events (List.ofFn c ++ left) t)
    (hs : s.Running) {k : Nat} (hk : k ≤ 12) :
    ∃ u, Spec.execN .sample k t = .next u ∧
      Snapped s (k + 2) (v ||| controlBits c k) (controlEvents c k ++ events) ((List.ofFn c).drop k ++ left) u := by
  induction k with
  | zero => exact ⟨t, rfl, by simpa [controlBits, controlEvents] using h⟩
  | succ k ih =>
    obtain ⟨u, hrun, hu⟩ := ih (Nat.le_of_succ_le hk)
    rw [drop_ofFn c hk] at hu
    obtain ⟨u', hstep, hu'⟩ := hu.read hs (by omega)
    refine ⟨u', (execN_trans hrun 1).trans (execN_succ hstep 0), ?_⟩
    rw [controlBits_succ c hk, controlEvents_succ c hk]
    exact hu'

end

/-- R127, R128: an idle engine accepts `SAMPLE`, owned or not. -/
theorem exec_sample_idle {s : State} (hs : s.Idle) : exec .sample s = .next (accept 0x18#64 s) := by
  have hmode : modeAllows .sample s.mode = true := by
    cases hm : s.mode with
    | released | owned => rfl
    | halted => exact absurd hm hs.2
  rw [exec_idle hs.1 hs.2, present, hmode]
  rfl

/-- Settles O17: acceptance, the fourteen reads one after another, the completion. -/
theorem sampleRun : Obligations.SampleRun := by
  unfold Obligations.SampleRun
  intro s a d c rest hs hanswers
  have hidle := exec_sample_idle hs
  have hrunning : (accept 0x18#64 s).Running := ⟨rfl, hs.2⟩
  have hstart : Snapped (accept 0x18#64 s) 0 s.work.cur [] (a :: d :: (List.ofFn c ++ rest)) (accept 0x18#64 s) :=
    hanswers ▸ snapped_accept 0x18#64 s
  obtain ⟨t₁, haddr, h₁⟩ := hstart.read hrunning (by decide)
  obtain ⟨t₂, hdata, h₂⟩ := h₁.read hrunning (by decide)
  obtain ⟨t₃, hctl, h₃⟩ := h₂.controlReads hrunning (le_refl 12)
  have hend := exec_sample_end (h₃.running hrunning) h₃.op_eq.ge
  have hrun := calc Spec.execN .sample (12 + 1 + 3) s
    _ = Spec.execN .sample (12 + 1) t₂ := by rw [execN_succ hidle, execN_succ haddr, execN_succ hdata]
    _ = Spec.execN .sample 1 t₃ := execN_trans hctl 1
    _ = .next _ := execN_succ hend 0
  have hleft : (List.ofFn c).drop 12 ++ rest = rest := by simp
  refine ⟨_, _, hrun, ?snap, congrArg State.trace h₃.state, ?frame⟩
  case snap =>
    rw [h₃.cur, snapshot_eq a d c s.work.cur, h₃.res_eq]
    rfl
  case frame =>
    rw [h₃.state, hleft]
    rfl

end Sys2Proof.Machine
end

section
/-! `CROSSTALK` in the terms of the statements: the drivers of R185, and what one step does (R186). -/

namespace Sys2Proof.Machine
open Sys2Proof

/-! ### The drivable positions (R184) and their drivers (R185) -/

theorem driverOf_addr {p : Nat} (hp : p < 16) : driverOf p = .addrLine p := if_pos hp

theorem driverOf_data {k : Nat} (hk : k < 8) : driverOf (16 + k) = .dataLine k := by
  unfold driverOf
  rw [if_neg (by omega), if_pos (by omega), Nat.add_sub_cancel_left]

theorem driverOf_generic {g : Sig} (hg : g.idx.val ≤ 6) : driverOf (24 + g.idx.val) = .generic g := by
  cases g with
  | ras | mux | cas | rd | wr | ioIn | ioOut => rfl
  | sysRes | intAck | int | test | wait => exact absurd hg (by decide)

theorem driverOf_writeOnly {g : Sig} (hg : g = .int ∨ g = .wait) : driverOf (24 + g.idx.val) = .writeOnly g := by
  obtain rfl | rfl := hg <;> rfl

theorem drivable_eq_drivablePositions : drivable = Spec.drivablePositions := rfl

/-- R184: the position after the `j`-th. -/
theorem drivable_getD {j p : Nat} (h : Spec.drivablePositions[j]? = some p) :
    j < Config.drivableCount ∧ drivable.getD j 36 = p := by
  obtain ⟨hj, -⟩ := List.getElem?_eq_some_iff.mp h
  exact ⟨hj, by rw [drivable_eq_drivablePositions, List.getD_eq_getElem?_getD, h, Option.getD_some]⟩

/-- R185: the step that begins `Drive`, by the driver. -/
def Driver.driveBegin : Driver → State → State
  | .addrLine _, s => Spec.atOp 1 (Spec.setAddrDir .output s)
  | .dataLine _, s => Spec.atOp 1 (Spec.setDataDir .output s)
  | .generic g, s => Spec.atOp 1 (Spec.setDir g .output s)
  | .writeOnly g, s => Spec.atOp 2 (Spec.setOut g true s)

/-- R185: the second step of `Drive`, by the driver. -/
def Driver.driveEnd : Driver → State → State
  | .addrLine i, s => Spec.atOp 2 (Spec.setAddrOut (1#16 <<< i) s)
  | .dataLine i, s => Spec.atOp 2 (Spec.setDataOut (1#8 <<< i) s)
  | .generic g, s => Spec.atOp 2 (Spec.setOut g true s)
  | .writeOnly _, s => Spec.atOp 2 s

/-- R185: the step that begins `Release`, by the driver. -/
def Driver.releaseBegin : Driver → State → State
  | .addrLine _, s => Spec.atOp 34 (Spec.setAddrOut 0#16 s)
  | .dataLine _, s => Spec.atOp 34 (Spec.setDataOut 0#8 s)
  | .generic g, s => Spec.atOp 34 (Spec.setOut g false s)
  | .writeOnly g, s => Spec.atOp 35 (Spec.setOut g false s)

/-- R185: the second step of `Release`, by the driver. -/
def Driver.releaseEnd : Driver → State → State
  | .addrLine _, s => Spec.atOp 35 (Spec.setAddrDir .input s)
  | .dataLine _, s => Spec.atOp 35 (Spec.setDataDir .input s)
  | .generic g, s => Spec.atOp 35 (Spec.setDir g .input s)
  | .writeOnly _, s => Spec.atOp 35 s

section
variable {p : Nat} {d : Driver} (hd : driverOf p = d) (s : State)
include hd

theorem driveFirst_gotoOp : (driveFirst p s).gotoOp (if twoStep p then 1 else 2) = d.driveBegin s := by
  rw [driveFirst, twoStep, hd]
  cases d <;> rfl

theorem driveSecond_gotoOp : (driveSecond p s).gotoOp 2 = d.driveEnd s := by
  rw [driveSecond, hd]
  cases d <;> rfl

theorem releaseFirst_gotoOp : (releaseFirst p s).gotoOp (if twoStep p then 34 else 35) = d.releaseBegin s := by
  rw [releaseFirst, twoStep, hd]
  cases d <;> rfl

theorem releaseSecond_gotoOp : (releaseSecond p s).gotoOp 35 = d.releaseEnd s := by
  rw [releaseSecond, hd]
  cases d <;> rfl

end

/-! ### The result and the changes -/

theorem writeXt_eq_crosstalkResult (src dst : Word64) (s : State) :
    writeXt src dst s = Spec.crosstalkResult src dst s := by
  rw [writeXt, setBitTo_eq_withBit, crosstalkIssues, bne, beq_eq_decide, ← decide_not]
  rfl

theorem unexpected_bne_zero (cur baseline : Word64) (p : Nat) :
    (unexpected cur baseline p != 0#64) = decide (Spec.unexpectedAt cur baseline p ≠ 0#64) := by
  rw [bne, beq_eq_decide, ← decide_not]
  rfl

/-! ### One step of the detector -/

section
variable {s : State} (hs : s.Running)
include hs

theorem exec_xt : exec .crosstalk s = .next (finish (crosstalkBody true s)) := exec_running hs.1 hs.2

/-! The prologue and the baseline. -/

theorem exec_xt_prologue (hp : s.seq.phase = 0) : exec .crosstalk s = .next (xtPrologue s) := by
  rw [exec_xt hs, crosstalkBody, hp]
  rfl

theorem exec_xt_clear (hp : s.seq.phase = 0) (ho : s.seq.op = 0) :
    exec .crosstalk s = .next (Spec.atOp 1 (Spec.crosstalkResult 0#64 0#64 s)) := by
  rw [exec_xt_prologue hs hp, xtPrologue, if_pos ho, writeXt_eq_crosstalkResult, gotoOp_eq_atOp]

theorem exec_xt_baseline_read (hp : s.seq.phase = 0) (ho : 1 ≤ s.seq.op) (ho' : s.seq.op ≤ 14) :
    exec .crosstalk s = .next (Spec.atOp (s.seq.op + 1) (Spec.snapshotRead (s.seq.op - 1) s)) := by
  rw [exec_xt_prologue hs hp, xtPrologue, snapReads, if_neg (by omega), if_pos ho',
    snapRead_eq_snapshotRead (by omega), gotoOp_eq_atOp]

theorem exec_xt_baseline_end (hp : s.seq.phase = 0) (ho : 15 ≤ s.seq.op) :
    exec .crosstalk s = .next (Spec.atPhase 1 0 { s with
      res := { s.res with xtBaseline := s.work.cur }, work := { s.work with src := 0#64, dst := 0#64 } }) := by
  rw [exec_xt_prologue hs hp, xtPrologue, snapReads, if_neg (by omega), if_neg (by omega)]
  rfl

/-! One position. -/

variable (hp : 1 ≤ s.seq.phase)
include hp

theorem exec_xt_position : exec .crosstalk s = .next (finish (xtPosition true s)) := by
  obtain ⟨n, hn⟩ := Nat.exists_eq_add_of_le' hp
  rw [exec_xt hs, crosstalkBody, hn]

theorem exec_xt_cancel (ho : s.seq.op = 0) (hc : s.cancelReq = true) :
    exec .crosstalk s = .next (Spec.completedCancelled (Spec.crosstalkResult s.work.src s.work.dst s)) := by
  rw [exec_xt_position hs hp, xtPosition, if_pos ho, if_pos hc, writeXt_eq_crosstalkResult]
  rfl

theorem exec_xt_settle (ho : s.seq.op = 2) : exec .crosstalk s = .next (Spec.atOp 3 (Spec.waitSettle s)) := by
  simp only [exec_xt_position hs hp, xtPosition, ho]
  rfl

theorem exec_xt_read (ho : 3 ≤ s.seq.op) (ho' : s.seq.op ≤ 16) :
    exec .crosstalk s = .next (Spec.atOp (s.seq.op + 1) (Spec.snapshotRead (s.seq.op - 3) s)) := by
  rw [exec_xt_position hs hp, xtPosition]
  simp (disch := omega) only [if_neg, if_pos, snapRead_eq_snapshotRead, gotoOp_eq_atOp, finish_more]

section
variable {d : Driver} (hd : driverOf s.seq.posk = d)
include hd

theorem exec_xt_driveBegin (ho : s.seq.op = 0) (hc : s.cancelReq = false) :
    exec .crosstalk s = .next (d.driveBegin s) := by
  simp [exec_xt_position hs hp, xtPosition, ho, hc, driveFirst_gotoOp hd]

theorem exec_xt_driveEnd (ho : s.seq.op = 1) : exec .crosstalk s = .next (d.driveEnd s) := by
  simp [exec_xt_position hs hp, xtPosition, ho, driveSecond_gotoOp hd]

theorem exec_xt_releaseBegin (ho : s.seq.op = 33) : exec .crosstalk s = .next (d.releaseBegin s) := by
  simp [exec_xt_position hs hp, xtPosition, ho, releaseFirst_gotoOp hd]

theorem exec_xt_releaseEnd (ho : s.seq.op = 34) : exec .crosstalk s = .next (d.releaseEnd s) := by
  simp [exec_xt_position hs hp, xtPosition, ho, releaseSecond_gotoOp hd]

end

/-! The trigger and the confirmation (R187 to R189). -/

theorem exec_xt_trigger (ho : s.seq.op = 17) : exec .crosstalk s = .next (xtTrigger s) := by
  simp [exec_xt_position hs hp, xtPosition, ho]

theorem exec_xt_trigger_none (ho : s.seq.op = 17)
    (hu : Spec.unexpectedAt s.work.cur s.res.xtBaseline s.seq.posk = 0#64) :
    exec .crosstalk s = .next (Spec.atOp 33 { s with work := { s.work with u0 := 0#64 } }) := by
  rw [exec_xt_trigger hs hp ho, ← hu]
  exact congrArg _ (if_pos hu)

theorem exec_xt_trigger_some (ho : s.seq.op = 17)
    (hu : Spec.unexpectedAt s.work.cur s.res.xtBaseline s.seq.posk ≠ 0#64) :
    exec .crosstalk s = .next (Spec.atOp 18 (Spec.noHits { s with work := { s.work with
      u0 := Spec.unexpectedAt s.work.cur s.res.xtBaseline s.seq.posk } })) := by
  rw [exec_xt_trigger hs hp ho]
  exact congrArg _ (if_neg hu)

theorem exec_xt_wait (ho : s.seq.op = 18) (hmore : Spec.moreSamples s) :
    exec .crosstalk s = .next (Spec.atOp 19 (Spec.waitConfirm s)) := by
  simp only [exec_xt_position hs hp, xtPosition, ho, (sampling_iff s).mpr hmore]
  rfl

theorem exec_xt_sample_read (ho : 19 ≤ s.seq.op) (ho' : s.seq.op ≤ 31) :
    exec .crosstalk s = .next (Spec.atOp (s.seq.op + 1) (Spec.snapshotRead (s.seq.op - 19) s)) := by
  rw [exec_xt_position hs hp, xtPosition]
  simp (disch := omega) only [if_neg, if_pos, snapRead_eq_snapshotRead, gotoOp_eq_atOp, finish_more]

/-- R189: the last read of a sample makes it a hit or not. -/
theorem exec_xt_sample_last (ho : s.seq.op = 32) :
    exec .crosstalk s = .next (Spec.atOp 18 (Spec.sampled
      (decide (Spec.unexpectedAt (Spec.snapshotRead 13 s).work.cur s.res.xtBaseline s.seq.posk ≠ 0#64))
      (Spec.snapshotRead 13 s))) := by
  simp only [exec_xt_position hs hp, xtPosition, ho]
  rw [← unexpected_bne_zero, ← countSample_eq_sampled, ← snapRead_eq_snapshotRead (by decide)]
  rfl

theorem exec_xt_decide (ho : s.seq.op = 18) (hmore : ¬ Spec.moreSamples s) :
    exec .crosstalk s = .next (xtDecide s) := by
  simp [exec_xt_position hs hp, xtPosition, ho, mt (sampling_iff s).mp hmore]

theorem exec_xt_found (ho : s.seq.op = 18) (hmore : ¬ Spec.moreSamples s) (hhits : Spec.enoughHits s.cfg.xtPct s) :
    exec .crosstalk s = .next (Spec.atOp 33 { s with work := { s.work with
      src := s.work.src ||| (1#64 <<< s.seq.posk), dst := s.work.dst ||| s.work.u0 } }) := by
  rw [exec_xt_decide hs hp ho hmore, xtDecide, if_pos ((confirmed_iff ..).mpr hhits)]
  rfl

theorem exec_xt_notFound (ho : s.seq.op = 18) (hmore : ¬ Spec.moreSamples s)
    (hhits : ¬ Spec.enoughHits s.cfg.xtPct s) : exec .crosstalk s = .next (Spec.atOp 33 s) := by
  rw [exec_xt_decide hs hp ho hmore, xtDecide, if_neg (mt (confirmed_iff ..).mp hhits), gotoOp_eq_atOp]

/-! The next position, or the end. -/

theorem exec_xt_next (ho : 35 ≤ s.seq.op) : exec .crosstalk s = .next (finish (xtNext true s)) := by
  rw [exec_xt_position hs hp, xtPosition]
  simp (disch := omega) only [if_neg]

theorem exec_xt_next_position {p : Nat} (hpos : Spec.drivablePositions[s.seq.phase]? = some p) (ho : 35 ≤ s.seq.op) :
    exec .crosstalk s = .next (Spec.atPhase (s.seq.phase + 1) p (Spec.progressed (100 * s.seq.phase / 33) s)) := by
  obtain ⟨hcount, hget⟩ := drivable_getD hpos
  rw [exec_xt_next hs hp ho, xtNext, if_pos hcount, enterPosition, hget]
  rfl

theorem exec_xt_end (hlast : s.seq.phase = 33) (ho : 35 ≤ s.seq.op) :
    exec .crosstalk s = .next (Spec.completed (Spec.crosstalkResult s.work.src s.work.dst s)) := by
  rw [exec_xt_next hs hp ho, xtNext, Config.drivableCount, if_neg (by omega), writeXt_eq_crosstalkResult]
  rfl

end

/-! ### O25 and O26 -/

/-- Settles O25: the prologue and the steps of a position but the sampling, each driver's line by line. -/
theorem crosstalkDriveSteps : Obligations.CrosstalkDriveSteps := by
  unfold Obligations.CrosstalkDriveSteps
  intro s hs
  have haddr : ∀ p < 16, s.seq.posk = p → driverOf s.seq.posk = .addrLine p :=
    fun p hlt hpos => hpos ▸ driverOf_addr (hpos ▸ hlt)
  have hdata : ∀ k < 8, s.seq.posk = 16 + k → driverOf s.seq.posk = .dataLine k :=
    fun k hlt hpos => hpos ▸ driverOf_data hlt
  have hgen : ∀ g : Sig, g.idx.val ≤ 6 → s.seq.posk = 24 + g.idx.val → driverOf s.seq.posk = .generic g :=
    fun g hg hpos => hpos ▸ driverOf_generic hg
  have hwo : ∀ g : Sig, g = .int ∨ g = .wait → s.seq.posk = 24 + g.idx.val → driverOf s.seq.posk = .writeOnly g :=
    fun g hg hpos => hpos ▸ driverOf_writeOnly hg
  exact ⟨exec_xt_clear hs, exec_xt_baseline_read hs, exec_xt_baseline_end hs, exec_xt_cancel hs,
    fun p hlt hpos hp => exec_xt_driveBegin hs hp (haddr p hlt hpos),
    fun p hlt hpos hp => exec_xt_driveEnd hs hp (haddr p hlt hpos),
    fun k hlt hpos hp => exec_xt_driveBegin hs hp (hdata k hlt hpos),
    fun k hlt hpos hp => exec_xt_driveEnd hs hp (hdata k hlt hpos),
    fun g hg hpos hp => exec_xt_driveBegin hs hp (hgen g hg hpos),
    fun g hg hpos hp => exec_xt_driveEnd hs hp (hgen g hg hpos),
    fun g hg hpos hp => exec_xt_driveBegin hs hp (hwo g hg hpos),
    exec_xt_settle hs,
    fun p hlt hpos hp => exec_xt_releaseBegin hs hp (haddr p hlt hpos),
    fun p hlt hpos hp => exec_xt_releaseEnd hs hp (haddr p hlt hpos),
    fun k hlt hpos hp => exec_xt_releaseBegin hs hp (hdata k hlt hpos),
    fun k hlt hpos hp => exec_xt_releaseEnd hs hp (hdata k hlt hpos),
    fun g hg hpos hp => exec_xt_releaseBegin hs hp (hgen g hg hpos),
    fun g hg hpos hp => exec_xt_releaseEnd hs hp (hgen g hg hpos),
    fun g hg hpos hp => exec_xt_releaseBegin hs hp (hwo g hg hpos),
    fun _ hpos hp => exec_xt_next_position hs hp hpos,
    fun hlast => exec_xt_end hs (by omega) hlast⟩

/-- Settles O26: the snapshot, the trigger, the samples and the decision of a position. -/
theorem crosstalkSampleSteps : Obligations.CrosstalkSampleSteps := by
  unfold Obligations.CrosstalkSampleSteps
  exact fun s hs hp => ⟨exec_xt_read hs hp, exec_xt_trigger_none hs hp, exec_xt_trigger_some hs hp,
    exec_xt_wait hs hp, exec_xt_sample_read hs hp, exec_xt_sample_last hs hp, exec_xt_found hs hp,
    exec_xt_notFound hs hp⟩

end Sys2Proof.Machine
end

section
/-! The gate of `TEST` (R217, O49): which operations touch it, and when the body that runs needs it open. -/

namespace Sys2Proof.Machine
open Sys2Proof

/-! ### The gate over one more event -/

/-- An event that neither opens nor closes the gate. -/
def LeavesGate (e : Event) : Prop := e ≠ .reset ∧ ∀ b, e ≠ .ctlWrite .test b

theorem gateOpen_of_leavesGate {e : Event} (h : LeavesGate e) (l : List Event) : gateOpen (e :: l) = gateOpen l := by
  obtain ⟨hreset, hwrite⟩ := h
  rw [gateOpen]
  · exact hwrite
  · exact hreset

/-- R217: the gate was kept, and stands open if the engine owns the bus. -/
def GateRest (s : State) : Prop := gateKept s.trace ∧ (s.mode = .owned → gateOpen s.trace = true)

/-- When an operation may be issued in mode `m` by a body that leaves the gate as it is. -/
def SafeIn (m : Mode) (e : Event) : Prop := LeavesGate e ∧ (gated e = true → m = .owned)

theorem GateRest.issues {s t : State} (h : GateRest s) (hmode : t.mode = s.mode)
    (hio : Issues (SafeIn s.mode) s.io t.io) : GateRest t := by
  obtain ⟨hkept, hopen⟩ := h
  rw [GateRest, hmode]
  cases hio with
  | silent htrace =>
    rw [show t.trace = s.trace from htrace]
    exact ⟨hkept, hopen⟩
  | event e he htrace =>
    rw [show t.trace = e :: s.trace from htrace, gateOpen_of_leavesGate he.1]
    exact ⟨⟨fun hg => hopen (he.2 hg), hkept⟩, hopen⟩

/-- R217: operations that are not gated keep the gate, open or not. -/
theorem gateKept_of_ungated {s t : State} (h : gateKept s.trace)
    (hio : Issues (fun e => gated e = false) s.io t.io) : gateKept t.trace := by
  cases hio with
  | silent htrace => rwa [show t.trace = s.trace from htrace]
  | event e he htrace =>
    rw [show t.trace = e :: s.trace from htrace]
    exact ⟨fun hg => absurd (he.symm.trans hg) (by decide), h⟩

/-! ### The commands that leave the gate as it is -/

theorem Issues.and {P Q : Event → Prop} {a b : Io} (h : Issues P a b) (h' : Issues Q a b) :
    Issues (fun e => P e ∧ Q e) a b := by
  cases h with
  | silent h => exact .silent h
  | event e he h => exact .event e ⟨he, h'.of_cons h⟩ h

/-- R210: only the activation protocol writes `TEST`. -/
theorem leavesGate_of_mayIssue {i : Instr} (hi : changesMode i = false) {e : Event} (h : Spec.mayIssue i e) :
    LeavesGate e := by
  constructor
  · rintro rfl
    cases i <;> exact h
  · rintro b rfl
    cases i with
    | activate | deactivate | fullpass => cases hi
    | verifyCtrl | crosstalk => exact absurd h (by simp [Spec.mayIssue, Sig.idx])
    | _ => exact h

/-- R326: the calls of the suite are memory algorithms. -/
theorem changesMode_suiteCall (c : Cfg) (k : Nat) : changesMode (suiteCall c k) = false := by
  have hall : ∀ i ∈ suiteTable c, changesMode i = false := by simp [suiteTable, changesMode]
  rw [suiteCall, List.getD_eq_getElem?_getD]
  cases h : (suiteTable c)[k]? with
  | none => rfl
  | some i => exact hall i (List.mem_of_getElem? h)

theorem changesMode_algorithm {i : Instr} (hi : changesMode i = false) (s : State) :
    changesMode (Spec.algorithm i s) = false := by
  by_cases hsuite : i = .suite
  case neg => rwa [algorithm_of_ne hsuite (by rintro rfl; cases hi)]
  case pos =>
    obtain ⟨k, hk, hword⟩ : ∃ k < 19, Spec.suiteWord s.cfg s.seq.call = Spec.suiteWord s.cfg k := by
      by_cases hcall : s.seq.call < 19
      · exact ⟨_, hcall, rfl⟩
      · obtain ⟨n, hn⟩ := Nat.exists_eq_add_of_le' (Nat.not_lt.mp hcall)
        exact ⟨18, by decide, by rw [hn]; rfl⟩
    subst hsuite
    have hcall : Spec.algorithm .suite s = suiteCall s.cfg k := by
      simp [Spec.algorithm, current, hword, suiteWord_eq_encode s.cfg hk, decode_encode (suiteCall_wellFormed ..)]
    rw [hcall]
    exact changesMode_suiteCall ..

theorem drives_or_delayMs_of_gated {e : Event} (h : gated e = true) :
    Spec.drives e = true ∨ ∃ n, e = .delayMs n := by
  cases e with
  | delayMs n => exact .inr ⟨n, rfl⟩
  | dataRead | addrRead | ctlRead | delay | reset => cases h
  | _ => exact .inl rfl

/-- R105: outside `OWNED` only the activation drives. -/
theorem owned_of_gated {m : Mode} {i : Instr} (hi : i ≠ .activate) {e : Event} (h : IssuedInMode m i e)
    (hg : gated e = true) : m = .owned := by
  obtain hm | ⟨hwait, hdrive⟩ := h
  · exact hm
  · obtain hd | ⟨n, hn⟩ := drives_or_delayMs_of_gated hg
    · exact absurd (hdrive hd).1 hi
    · exact absurd hn (hwait n)

theorem bodyIn_safeIn {i : Instr} (hi : changesMode i = false) (top : Bool) {s : State} {st : Nat}
    (hmode : runMode i st s.mode) : Issues (SafeIn s.mode) s.io (bodyIn top i s).state.io := by
  have hfull : i ≠ .fullpass := by rintro rfl; cases hi
  have hact : i ≠ .activate := by rintro rfl; cases hi
  exact ((primitive_issues_algorithm hfull top s).and (primitive_issuedInMode hfull hmode top s)).mono
    fun _ ⟨hmay, hin⟩ => ⟨leavesGate_of_mayIssue (changesMode_algorithm hi s) hmay, owned_of_gated hact hin⟩

/-! ### Where a body needs the gate open -/

/-- R212, R215, R217: where command `i` at step `op` in mode `m` needs the gate open: the activation once it has
driven `TEST`, the deactivation until it drives it back, any other command while the engine owns the bus. -/
def needsGate (i : Instr) (op : Nat) (m : Mode) : Prop :=
  match i with
  | .activate => 4 ≤ op
  | .deactivate => op = 0
  | _ => m = .owned

/-- R217: the gate was kept, and stands open where body `i` needs it. -/
def GateAt (i : Instr) (s : State) : Prop :=
  gateKept s.trace ∧ (needsGate i s.seq.op s.mode → gateOpen s.trace = true)

theorem gateAt_iff_rest {i : Instr} (hi : changesMode i = false) {s : State} : GateAt i s ↔ GateRest s := by
  cases i with
  | activate | deactivate | fullpass => cases hi
  | _ => exact .rfl

theorem needsGate_start {i : Instr} {st : Nat} {m : Mode} (hmode : runMode i st m) :
    needsGate i 0 m ↔ m = .owned := by
  cases i with
  | activate => simp [needsGate, show m = .released from hmode]
  | deactivate => simp [needsGate, show m = .owned from hmode]
  | _ => exact .rfl

/-- At its start a command finds the gate at rest. -/
theorem gateAt_start {i : Instr} {st : Nat} {s : State} (hmode : runMode i st s.mode) (hop : s.seq.op = 0) :
    GateAt i s ↔ GateRest s := by
  rw [GateAt, hop, needsGate_start hmode, GateRest]

/-- R217: the invariant where a command runs. -/
theorem gateInv_iff_of_runs {s : State} {i : Instr} (hruns : s.Runs i)
    (hmode : runMode (current i s.seq) s.seq.stage s.mode) :
    GateInv s ↔ OwnershipInv s ∧ GateAt (current i s.seq) s := by
  have hsame (P : Instr → Prop) : (∀ j, s.Runs j → P j) ↔ P i :=
    ⟨fun h => h i hruns, fun h j hj => by cases hruns.2.symm.trans hj.2; exact h⟩
  rw [GateInv, hsame, hsame, GateAt]
  simp only [closing, opening]
  cases hcur : current i s.seq with
  | activate =>
    rw [hcur] at hmode
    simp [needsGate, show s.mode = .released from hmode]
  | deactivate =>
    rw [hcur] at hmode
    simp [needsGate, show s.mode = .owned from hmode]
  | _ => simp [needsGate]

/-- R217: the invariant where no command runs, in `HALTED` or before the next command. -/
theorem gateInv_iff_of_not_runs {s : State} (hnone : ∀ i, ¬ s.Runs i) :
    GateInv s ↔ OwnershipInv s ∧ GateRest s := by
  simp [GateInv, GateRest, hnone]

/-! ### Every body -/

theorem gated_of_mayIssue_activate {e : Event} (h : Spec.mayIssue .activate e) : gated e = false := by
  cases e with
  | ctlDir g | ctlWrite g | ctlRead g =>
    obtain rfl : g = .test := h
    rfl
  | delay => rfl
  | _ => exact h.elim

theorem gated_of_mayIssue_deactivate {e : Event} (h : Spec.mayIssue .deactivate e) : gated e = false := by
  cases e with
  | ctlDir g | ctlWrite g =>
    obtain ⟨rfl, -⟩ := h
    rfl
  | ctlRead | delay => rfl
  | _ => exact h.elim

/-- R212: the activation opens the gate at step 3 and leaves it open. -/
theorem activateBody_gateOpen {s : State} (h : 4 ≤ s.seq.op → gateOpen s.trace = true) :
    (activateBody s).Comes (fun t => 4 ≤ t.seq.op → gateOpen t.trace = true) (fun t => gateOpen t.trace = true)
      fun _ => True := by
  unfold activateBody
  split
  case h_3 => split <;> simp
  case h_4 => exact fun _ => rfl
  case h_5 hop =>
    have hopen := h hop.ge
    split_ifs
    · exact fun _ => hopen
    · exact hopen
    · trivial
  case h_6 h0 h1 h2 h3 h4 =>
    have hop : 4 ≤ s.seq.op := by grind
    have hread : gateOpen (.ctlRead .test (s.answer.getLsbD 0) :: s.trace) = true := h hop
    exact fun _ => hread
  all_goals simp

theorem activateBody_gate {s : State} (h : GateAt .activate s) :
    (activateBody s).Comes (GateAt .activate) GateRest fun t => gateKept t.trace := by
  have hkept : gateKept (activateBody s).state.trace :=
    gateKept_of_ungated h.1 ((activateBody_issues s).mono fun _ => gated_of_mayIssue_activate)
  exact ((comes_self (P := fun t => gateKept t.trace) hkept).and (activateBody_gateOpen h.2)).mono (fun _ ht => ht)
    (fun _ ht => ⟨ht.1, fun _ => ht.2⟩) fun _ ht => ht.1

/-- R215: past its first step the deactivation needs the gate no more, and it ends in `RELEASED`. -/
theorem deactivateBody_past_start (s : State) :
    (deactivateBody s).Comes (fun t => t.seq.op ≠ 0) (fun t => t.mode = .released) fun _ => True := by
  unfold deactivateBody
  split
  case h_2 => split_ifs <;> simp
  all_goals simp

theorem deactivateBody_gate {s : State} (h : GateAt .deactivate s) :
    (deactivateBody s).Comes (GateAt .deactivate) GateRest fun t => gateKept t.trace := by
  have hkept : gateKept (deactivateBody s).state.trace :=
    gateKept_of_ungated h.1 ((deactivateBody_issues s).mono fun _ => gated_of_mayIssue_deactivate)
  exact ((comes_self (P := fun t => gateKept t.trace) hkept).and (deactivateBody_past_start s)).mono
    (fun _ ht => ⟨ht.1, fun hop => absurd hop ht.2⟩) (fun _ ht => ⟨ht.1, fun hm => by simp [ht.2] at hm⟩)
    fun _ ht => ht.1

/-- The gate over one step of a body other than `FULLPASS`'s. -/
theorem primitive_gate {i : Instr} (hi : i ≠ .fullpass) (top : Bool) {s : State} {st : Nat}
    (hmode : runMode i st s.mode) (h : GateAt i s) :
    (bodyIn top i s).Comes (GateAt i) GateRest fun t => gateKept t.trace := by
  by_cases hchange : changesMode i = false
  · have hsame : (bodyIn top i s).state.mode = s.mode := eq_of_fixed (bodyIn_framed hchange top s).1 State.mode
    have hrest : GateRest (bodyIn top i s).state :=
      ((gateAt_iff_rest hchange).mp h).issues hsame (bodyIn_safeIn hchange top hmode)
    exact comes_of_state (bodyIn_not_fatal hchange top s) ((gateAt_iff_rest hchange).mpr hrest) hrest
  · cases i with
    | activate => exact activateBody_gate h
    | deactivate => exact deactivateBody_gate h
    | fullpass => exact absurd rfl hi
    | _ => exact absurd rfl hchange

/-- R330: the body of `FULLPASS` and that of its stage run in a mode that allows them. -/
theorem runMode_current {i : Instr} {q : Seq} {m : Mode} (h : runMode i q.stage m) :
    runMode (current i q) q.stage m := by
  by_cases hi : i = .fullpass
  case neg => rwa [current_of_ne hi]
  case pos =>
    subst hi
    by_cases hst : q.stage = 0
    · have hm : m = .released := h.2.1 (by omega)
      rw [current, hst]
      exact .inl hm
    · exact runMode_stageCommand h hst

/-- The gate over one step of `FULLPASS`, in a mode its stage runs in. -/
theorem fullpassBody_gate {s : State} (hmode : runMode .fullpass s.seq.stage s.mode)
    (h : GateAt (stageCommand s.seq.stage) s) :
    (fullpassBody s).Comes
      (fun t => runMode (stageCommand t.seq.stage) t.seq.stage t.mode → GateAt (stageCommand t.seq.stage) t)
      GateRest fun t => gateKept t.trace := by
  have hmode' : runMode (stageCommand s.seq.stage) s.seq.stage s.mode := runMode_current (i := .fullpass) hmode
  have hbody := primitive_gate (stageCommand_ne_fullpass s.seq.stage) false hmode' h
  have hstage := primitive_stage (stageCommand_ne_fullpass s.seq.stage) false s
  generalize hr : fullpassBody s = r
  have hstep : FullpassStep s r := hr ▸ fullpassBody_step s
  cases hstep with
  | prologue hst =>
    have hrest : GateRest s := (gateAt_iff_rest (i := stageCommand s.seq.stage) (by rw [hst]; rfl)).mp h
    exact fun hm => (gateAt_start hm rfl).mpr hrest
  | cancelStart _ hq => exact fun hm => (gateAt_start hm rfl).mpr ((gateAt_start hmode' hq.2.1).mp h)
  | within _ t ht =>
    rw [ht] at hbody hstage
    rw [comes_more, show t.seq.stage = s.seq.stage from hstage]
    exact fun _ => hbody
  | nextStage _ _ t ht | cancelIn _ _ t ht =>
    rw [ht] at hbody
    exact fun hm => (gateAt_start hm rfl).mpr hbody
  | ended _ t ht | cancelled _ t ht | fatal _ t ht => rwa [ht] at hbody

theorem bodyOf_gate {s : State} {i : Instr} (hmode : runMode i s.seq.stage s.mode)
    (h : GateAt (current i s.seq) s) :
    (bodyOf i s).Comes
      (fun t => runMode (current i t.seq) t.seq.stage t.mode → GateAt (current i t.seq) t)
      GateRest fun t => gateKept t.trace := by
  by_cases hi : i = .fullpass
  · subst hi
    exact fullpassBody_gate hmode h
  · rw [current_of_ne hi] at h
    rw [bodyOf_eq_bodyIn]
    refine (primitive_gate hi true hmode h).mono (fun t ht _ => ?_) (fun _ ht => ht) fun _ ht => ht
    rwa [current_of_ne hi]

/-! ### The invariant -/

theorem gateInv_of_core {s t : State} (h : t.core = s.core) (hs : GateInv s) : GateInv t :=
  (eq_of_core h GateInv).mpr hs

theorem gateInv_of_runs {t : State} (hown : OwnershipInv t) {i : Instr} (hruns : t.Runs i)
    (h : runMode (current i t.seq) t.seq.stage t.mode → GateAt (current i t.seq) t) : GateInv t := by
  have hmode := runMode_current (hown.runMode hruns)
  exact (gateInv_iff_of_runs hruns hmode).mpr ⟨hown, h hmode⟩

theorem gateInv_of_not_running {t : State} (hown : OwnershipInv t) (hstop : ¬ t.Running) (h : GateRest t) :
    GateInv t :=
  (gateInv_iff_of_not_runs fun _ hruns => hstop hruns.1).mpr ⟨hown, h⟩

/-- A step of a body leaves the command running, unless it is over or halts. -/
theorem bodyOf_runs_or_halts {s : State} {i : Instr} (hmode : runMode i s.seq.stage s.mode) (hrun : s.Running) :
    (bodyOf i s).Comes State.Running (fun _ => True) fun t => t.mode = .halted := by
  have hgo {m : Mode} (hm : m ≠ .halted) {t : State} (ht : t.fixed = s.fixed.setMode m) : t.Running :=
    ⟨(eq_of_fixed (s := s.setMode m) ht State.busy).trans hrun.1,
      fun h => hm ((eq_of_fixed (s := s.setMode m) ht State.mode).symm.trans h)⟩
  have hhalt {t : State} : (∃ c, c ≠ .none ∧ t.fixed = raiseFatal c s.fixed) → t.mode = .halted :=
    fun ⟨c, _, ht⟩ => eq_of_fixed (s := raiseFatal c s) ht State.mode
  by_cases hi : i = .fullpass
  · subst hi
    exact (fullpassBody_comes hmode hrun.2).mono (fun _ ⟨_, ht, hm⟩ => hgo (runMode_ne_halted hm) ht)
      (fun _ _ => trivial) fun _ => hhalt
  · rw [bodyOf_eq_bodyIn]
    exact (primitive_comes hi true s).mono (fun _ ht => hgo hrun.2 ht.1) (fun _ _ => trivial) fun _ => hhalt

/-- Every step of a running command keeps the gate. -/
theorem gateInv_ran {s : State} {i : Instr} (hs : GateInv s) (hruns : s.Runs i) :
    GateInv (finish (bodyOf i s)) := by
  have hown := ownershipInv_ran hs.1 hruns
  have hmode := hs.1.runMode hruns
  have hgate := bodyOf_gate hmode ((gateInv_iff_of_runs hruns (runMode_current hmode)).mp hs).2
  have hlast : decode (bodyOf i s).state.lastcmd = .ok i := by
    rw [bodyOf_eq_bodyIn, bodyIn_lastcmd]
    exact hruns.2
  have hcomes := bodyOf_runs_or_halts hmode hruns.1
  generalize bodyOf i s = r at hown hgate hlast hcomes
  cases r with
  | more t => exact gateInv_of_runs hown ⟨hcomes, hlast⟩ hgate
  | ended t | cancelled t => exact gateInv_of_not_running hown (fun h => by cases h.1) hgate
  | fatal t =>
    have hm : t.mode = .halted := hcomes
    exact gateInv_of_not_running hown (fun h => h.2 hm) ⟨hgate, fun h => by cases hm.symm.trans h⟩

theorem gateInv_accepted {s : State} {i : Instr} (hs : GateInv s) (hidle : s.Idle)
    (hmode : modeAllows i s.mode = true) (hword : decode (encode i) = .ok i) : GateInv (accept (encode i) s) := by
  have hnone : ∀ j, ¬ s.Runs j := fun j hj => absurd (hj.1.1.symm.trans hidle.1) (by decide)
  have hrest : GateRest s := ((gateInv_iff_of_not_runs hnone).mp hs).2
  exact gateInv_of_runs (ownershipInv_accepted hs.1 hidle hmode hword) ⟨⟨rfl, hidle.2⟩, hword⟩
    fun hm => (gateAt_start hm rfl).mpr hrest

theorem gateInv_reset {s : State} (hs : GateInv s) : GateInv (resetEngine s) :=
  gateInv_of_not_running (ownershipInv_reset s) (fun h => by cases h.1)
    ⟨⟨fun h => absurd h (by decide), hs.2.1⟩, fun h => by cases h⟩

/-- Settles O49: the gate over a reset, an acceptance and a step of the running command (the obligation's own name is
the model's predicate on traces). -/
theorem gateKept_by_every_step : Obligations.GateKept := by
  unfold Obligations.GateKept
  intro s t hs h
  exact kept_by_step gateInv_of_core (fun _ => gateInv_reset) (fun _ _ => gateInv_accepted)
    (fun _ _ => gateInv_ran) hs h

end Sys2Proof.Machine
end

section
/-! `ACTIVATE` and `DEACTIVATE` (R212, R215) in the terms of the statements: their steps, O18 and O20. -/

namespace Sys2Proof.Machine
open Sys2Proof

@[simp] theorem readTrue_readCtl (g : Sig) (s : State) : (Spec.readCtl g s).readTrue = Spec.level s := by
  rw [← ctlRead_eq_readCtl, readTrue_ctlRead, Spec.level]

section
variable {s : State} (hs : s.Running)
include hs

/-! ### ACTIVATE -/

theorem exec_activate : exec .activate s = .next (finish (activateBody s)) := exec_running hs.1 hs.2

theorem exec_activate_input (hop : s.seq.op = 0) :
    exec .activate s = .next (Spec.atOp 1 (Spec.setDir .test .input s)) := by
  simp only [exec_activate hs, activateBody, hop]
  rfl

theorem exec_activate_sample (hop : s.seq.op = 1) :
    exec .activate s = .next (Spec.atOp 2 (Spec.readCtl .test s)) := by
  simp only [exec_activate hs, activateBody, hop, ctlRead_eq_readCtl]
  rfl

theorem exec_activate_taken (hop : s.seq.op = 2) (hlevel : s.work.rdv.getLsbD 0 = true) :
    exec .activate s = .next (Spec.halted .alreadyActive s) := by
  simp only [exec_activate hs, activateBody, hop, State.readTrue, hlevel, if_true]
  rfl

theorem exec_activate_output (hop : s.seq.op = 2) (hlevel : s.work.rdv.getLsbD 0 = false) :
    exec .activate s = .next (Spec.atOp 3 (Spec.setDir .test .output s)) := by
  simp only [exec_activate hs, activateBody, hop, State.readTrue, hlevel]
  rfl

theorem exec_activate_drive (hop : s.seq.op = 3) :
    exec .activate s = .next (Spec.atOp 4 (Spec.noHits (Spec.setOut .test true s))) := by
  simp only [exec_activate hs, activateBody, hop]
  rfl

theorem exec_activate_wait (hop : s.seq.op = 4) (hmore : Spec.moreSamples s) :
    exec .activate s = .next (Spec.atOp 5 (Spec.waitConfirm s)) := by
  simp only [exec_activate hs, activateBody, hop, (sampling_iff s).mpr hmore, if_true]
  rfl

theorem exec_activate_confirm (hop : 5 ≤ s.seq.op) :
    exec .activate s = .next (Spec.atOp 4 (Spec.sampled (Spec.level s) (Spec.readCtl .test s))) := by
  obtain ⟨k, hk⟩ := Nat.exists_eq_add_of_le' hop
  simp only [exec_activate hs, activateBody, hk, ctlRead_eq_readCtl, readTrue_readCtl, countSample_eq_sampled]
  rfl

theorem exec_activate_own (hop : s.seq.op = 4) (hmore : ¬ Spec.moreSamples s)
    (hhits : Spec.enoughHits s.cfg.actPct s) :
    exec .activate s = .next (Spec.completed { s with mode := .owned }) := by
  simp only [exec_activate hs, activateBody, hop, sampling_iff, if_neg hmore, (confirmed_iff s _).mpr hhits, if_true]
  rfl

theorem exec_activate_fail (hop : s.seq.op = 4) (hmore : ¬ Spec.moreSamples s)
    (hhits : ¬ Spec.enoughHits s.cfg.actPct s) :
    exec .activate s = .next (Spec.halted .activateFailed s) := by
  simp only [exec_activate hs, activateBody, hop, sampling_iff, if_neg hmore, confirmed_iff, if_neg hhits]
  rfl

/-! ### DEACTIVATE -/

theorem exec_deactivate : exec .deactivate s = .next (finish (deactivateBody s)) := exec_running hs.1 hs.2

theorem exec_deactivate_drive (hop : s.seq.op = 0) :
    exec .deactivate s = .next (Spec.atOp 1 (Spec.noHits (Spec.setOut .test false s))) := by
  simp only [exec_deactivate hs, deactivateBody, hop]
  rfl

theorem exec_deactivate_wait (hop : s.seq.op = 1) (hmore : Spec.moreSamples s) :
    exec .deactivate s = .next (Spec.atOp 2 (Spec.waitConfirm s)) := by
  simp only [exec_deactivate hs, deactivateBody, hop, (sampling_iff s).mpr hmore, if_true]
  rfl

theorem exec_deactivate_confirm (hop : s.seq.op = 2) :
    exec .deactivate s = .next (Spec.atOp 1 (Spec.sampled (!Spec.level s) (Spec.readCtl .test s))) := by
  simp only [exec_deactivate hs, deactivateBody, hop, ctlRead_eq_readCtl, readTrue_readCtl,
    countSample_eq_sampled]
  rfl

theorem exec_deactivate_release (hop : s.seq.op = 1) (hmore : ¬ Spec.moreSamples s)
    (hhits : Spec.enoughHits s.cfg.actPct s) :
    exec .deactivate s = .next (Spec.atOp 3 (Spec.setDir .test .input s)) := by
  simp only [exec_deactivate hs, deactivateBody, hop, sampling_iff, if_neg hmore, (confirmed_iff s _).mpr hhits,
    if_true]
  rfl

theorem exec_deactivate_fail (hop : s.seq.op = 1) (hmore : ¬ Spec.moreSamples s)
    (hhits : ¬ Spec.enoughHits s.cfg.actPct s) :
    exec .deactivate s = .next (Spec.halted .deactivateFailed s) := by
  simp only [exec_deactivate hs, deactivateBody, hop, sampling_iff, if_neg hmore, confirmed_iff, if_neg hhits]
  rfl

theorem exec_deactivate_end (hop : 3 ≤ s.seq.op) :
    exec .deactivate s = .next (Spec.completed { s with mode := .released }) := by
  obtain ⟨k, hk⟩ := Nat.exists_eq_add_of_le' hop
  simp only [exec_deactivate hs, deactivateBody, hk]
  rfl

end

/-! ### O18 and O20 -/

/-- Settles O18. -/
theorem activateSteps : Obligations.ActivateSteps := by
  unfold Obligations.ActivateSteps
  exact fun _ hs => ⟨exec_activate_input hs, exec_activate_sample hs, exec_activate_taken hs, exec_activate_output hs,
    exec_activate_drive hs, exec_activate_wait hs, exec_activate_confirm hs, exec_activate_own hs,
    exec_activate_fail hs⟩

/-- Settles O20. -/
theorem deactivateSteps : Obligations.DeactivateSteps := by
  unfold Obligations.DeactivateSteps
  exact fun _ hs => ⟨exec_deactivate_drive hs, exec_deactivate_wait hs, exec_deactivate_confirm hs,
    exec_deactivate_release hs, exec_deactivate_fail hs, exec_deactivate_end hs⟩

end Sys2Proof.Machine
end

section
/-! The confirmation loop of the activation protocol (R14), from its first sample to its last, for both commands. -/

namespace Sys2Proof.Machine
open Sys2Proof

/-! ### Acceptance and refusal of a command (R127) -/

section
variable {i : Instr} {s : State} (hs : s.Idle)
include hs

theorem exec_badState (hmode : modeAllows i s.mode = false) : exec i s = .next { s with err := .badState } := by
  rw [exec_idle hs.1 hs.2, present, hmode]
  rfl

theorem exec_badConfig (hmode : modeAllows i s.mode = true) (hcfg : configLegal i s.cfg = false) :
    exec i s = .next { s with err := .badConfig } := by
  rw [exec_idle hs.1 hs.2, present, hmode, hcfg]
  rfl

theorem exec_accepted (hmode : modeAllows i s.mode = true) (hcfg : configLegal i s.cfg = true)
    (hregion : usesRegion i = false) : exec i s = .next (accept (encode i) s) := by
  rw [exec_idle hs.1 hs.2, present, hmode, hcfg, hregion]
  rfl

end

/-- R359: the configuration group of both commands. -/
theorem groupOk_act (c : Cfg) :
    configLegal .activate c = Spec.groupOk .act c ∧ configLegal .deactivate c = Spec.groupOk .act c := by
  simp [Spec.groupOk, configLegal, pctOk_eq, Cfg.loopsLegal]

theorem readCtl_eq (g : Sig) {s : State} {a : BitVec 16} {left : List (BitVec 16)} (h : s.answers = a :: left) :
    Spec.readCtl g s = { s with
      work := { s.work with rdv := if a.getLsbD 0 then 1#16 else 0#16 }
      answers := left, answered := s.answered + 1, trace := .ctlRead g (a.getLsbD 0) :: s.trace } := by
  simp only [Spec.readCtl, Spec.readBack, Spec.level, answer_of_cons h, h, List.tail_cons]

/-! ### The samples -/

/-- R14: command `i` confirms `TEST` at steps `o` and `o + 1`; a sample of level `b` counts if `hit b`. -/
structure ConfirmsAt (i : Instr) (o : Nat) (hit : Bool → Bool) : Prop where
  wait {s : State} (hs : s.Running) (hop : s.seq.op = o) (hmore : Spec.moreSamples s) :
    exec i s = .next (Spec.atOp (o + 1) (Spec.waitConfirm s))
  sample {s : State} (hs : s.Running) (hop : s.seq.op = o + 1) :
    exec i s = .next (Spec.atOp o (Spec.sampled (hit (Spec.level s)) (Spec.readCtl .test s)))

theorem activate_confirmsAt : ConfirmsAt .activate 4 id :=
  ⟨exec_activate_wait, fun hs hop => exec_activate_confirm hs hop.ge⟩

theorem deactivate_confirmsAt : ConfirmsAt .deactivate 1 not := ⟨exec_deactivate_wait, exec_deactivate_confirm⟩

/-- R14: the events of samples answered by `l`, after delays of `d`, the latest first. -/
def sampleEvents (d : Nat) (l : List (BitVec 16)) : List Event :=
  (l.flatMap fun a => [Event.delay d, .ctlRead .test (a.getLsbD 0)]).reverse

theorem sampleEvents_append (d : Nat) (l l' : List (BitVec 16)) :
    sampleEvents d (l ++ l') = sampleEvents d l' ++ sampleEvents d l := by
  simp [sampleEvents]

/-- `t` is `s` after the samples answered by `l`; `left` is what the environment answers next. -/
structure Confirming (hit : Bool → Bool) (s : State) (l left : List (BitVec 16)) (t : State) : Prop where
  state : t = { s with
    seq := { s.seq with sample := s.seq.sample + l.length }, work := t.work
    answers := left, answered := s.answered + l.length
    trace := sampleEvents s.cfg.confirmDelay.toNat l ++ s.trace }
  hits : t.work.hits = s.work.hits + BitVec.ofNat 16 (l.countP fun a => hit (a.getLsbD 0))

section
variable {i : Instr} {o : Nat} {hit : Bool → Bool} {s t u : State} {l l' left rest : List (BitVec 16)}

theorem confirming_nil : Confirming hit s [] s.answers s := ⟨rfl, by simp⟩

theorem Confirming.trans (h : Confirming hit s l left t) (h' : Confirming hit t l' rest u) :
    Confirming hit s (l ++ l') rest u := by
  refine ⟨?_, by rw [h'.hits, h.hits, List.countP_append, BitVec.ofNat_add, BitVec.add_assoc]⟩
  rw [h'.state, h.state, List.length_append, sampleEvents_append, List.append_assoc, ← Nat.add_assoc,
    ← Nat.add_assoc]

theorem Confirming.running (h : Confirming hit s l left t) (hs : s.Running) : t.Running := by
  rw [h.state]
  exact hs

theorem Confirming.op_eq (h : Confirming hit s l left t) : t.seq.op = s.seq.op := by rw [h.state]

theorem Confirming.cfg_eq (h : Confirming hit s l left t) : t.cfg = s.cfg := by rw [h.state]

theorem Confirming.sample_eq (h : Confirming hit s l left t) : t.seq.sample = s.seq.sample + l.length := by
  rw [h.state]

theorem Confirming.answers_eq (h : Confirming hit s l left t) : t.answers = left := by rw [h.state]

/-- One delay and one sample. -/
theorem ConfirmsAt.turn (hi : ConfirmsAt i o hit) (hs : s.Running) (hop : s.seq.op = o)
    (hmore : Spec.moreSamples s) {a : BitVec 16} (ha : s.answers = a :: left) :
    ∃ u, Spec.execN i 2 s = .next u ∧ Confirming hit s [a] left u := by
  have hwait := hi.wait hs hop hmore
  have hsample := hi.sample (s := Spec.atOp (o + 1) (Spec.waitConfirm s)) hs rfl
  rw [readCtl_eq .test (s := Spec.atOp (o + 1) (Spec.waitConfirm s)) ha, Spec.level,
    answer_of_cons (s := Spec.atOp (o + 1) (Spec.waitConfirm s)) ha] at hsample
  refine ⟨_, (execN_succ hwait 1).trans (execN_succ hsample 0), ?_, ?_⟩
  · subst hop
    rfl
  · rw [List.countP_singleton]
    change s.work.hits + (if hit (a.getLsbD 0) then 1#16 else 0#16) = _
    cases hit (a.getLsbD 0) <;> rfl

/-- All samples that remain, one after another. -/
theorem ConfirmsAt.samples (hi : ConfirmsAt i o hit) (hs : s.Running) (hop : s.seq.op = o)
    (hl : s.seq.sample + l.length = s.cfg.confirmLoops.toNat) (ha : s.answers = l ++ rest) :
    ∃ t, Spec.execN i (2 * l.length) s = .next t ∧ Confirming hit s l rest t := by
  induction l generalizing s with
  | nil => exact ⟨s, rfl, by simpa [ha] using confirming_nil (hit := hit) (s := s)⟩
  | cons a l ih =>
    rw [List.length_cons] at hl
    obtain ⟨u, hturn, hu⟩ := hi.turn hs hop (show s.seq.sample < _ by omega) ha
    have hlu : u.seq.sample + l.length = u.cfg.confirmLoops.toNat := by
      rw [hu.sample_eq, hu.cfg_eq, List.length_singleton]
      omega
    obtain ⟨t, hrun, ht⟩ := ih (hu.running hs) (hu.op_eq.trans hop) hlu hu.answers_eq
    refine ⟨t, ?_, hu.trans ht⟩
    rw [List.length_cons, Nat.mul_succ, Nat.add_comm, execN_trans hturn, hrun]

/-- `t` is at step `o`, the first of a confirmation loop; but for `SEQ` and the working registers it is `s`. -/
structure LoopStart (o : Nat) (s t : State) : Prop where
  state : t = { s with seq := t.seq, work := t.work }
  op : t.seq.op = o
  sample : t.seq.sample = 0
  hits : t.work.hits = 0#16

/-- `t` is past the last sample of the loop, which the environment answered with `l`: `s` with the samples' events. -/
structure LoopEnd (o : Nat) (hit : Bool → Bool) (s : State) (l rest : List (BitVec 16)) (t : State) : Prop where
  state : t = { s with
    trace := sampleEvents s.cfg.confirmDelay.toNat l ++ s.trace
    answers := rest, answered := s.answered + l.length, seq := t.seq, work := t.work }
  op : t.seq.op = o
  last : ¬ Spec.moreSamples t
  /-- R14, R213: the threshold is inclusive, over the natural numbers -/
  enough : Spec.enoughHits t.cfg.actPct t ↔
    s.cfg.actPct.toNat * l.length ≤ (l.countP fun a => hit (a.getLsbD 0)) * 100

theorem LoopEnd.running (h : LoopEnd o hit s l rest t) (hs : s.Running) : t.Running := by
  rw [h.state]
  exact hs

theorem Confirming.loopEnd (h : Confirming hit t l rest u) (hstart : LoopStart o s t)
    (hl : l.length = s.cfg.confirmLoops.toNat) : LoopEnd o hit s l rest u := by
  have hcfg : u.cfg = s.cfg := by rw [h.cfg_eq, hstart.state]
  have hcount : l.countP (fun a => hit (a.getLsbD 0)) < 2 ^ 16 :=
    lt_of_le_of_lt List.countP_le_length (hl ▸ s.cfg.confirmLoops.isLt)
  refine ⟨by rw [h.state, hstart.state], h.op_eq.trans hstart.op, ?_, ?_⟩
  · rw [Spec.moreSamples, h.sample_eq, hcfg, hstart.sample, hl]
    omega
  · rw [Spec.enoughHits, h.hits, hcfg, hstart.hits, BitVec.zero_add, BitVec.toNat_ofNat, Nat.mod_eq_of_lt hcount, hl]

/-- R14: the whole loop. -/
theorem ConfirmsAt.loop (hi : ConfirmsAt i o hit) (hstart : LoopStart o s t) (hs : s.Running)
    (hl : l.length = s.cfg.confirmLoops.toNat) (ha : s.answers = l ++ rest) :
    ∃ u, Spec.execN i (2 * l.length) t = .next u ∧ LoopEnd o hit s l rest u := by
  have hrunning : t.Running := by
    rw [hstart.state]
    exact hs
  have hremain : t.seq.sample + l.length = t.cfg.confirmLoops.toNat := by
    rw [hstart.sample, Nat.zero_add, hl, hstart.state]
  obtain ⟨u, hrun, hu⟩ := hi.samples hrunning hstart.op hremain (by rw [hstart.state]; exact ha)
  exact ⟨u, hrun, hu.loopEnd hstart hl⟩

end

end Sys2Proof.Machine
end

section
/-! The whole runs of `ACTIVATE` and `DEACTIVATE` (R212, R213, R215): O19 and O21. -/

namespace Sys2Proof.Machine
open Sys2Proof

/-! ### ACTIVATE -/

section
variable {s t : State} {first : BitVec 16} {left : List (BitVec 16)}

/-- R212: `t` has taken the first sample of an accepted `ACTIVATE` presented to `s`, with the answer `first`. -/
structure FirstSampled (s : State) (first : BitVec 16) (left : List (BitVec 16)) (t : State) : Prop where
  state : t = { Spec.accepted 0x01#64 s with
    trace := [.ctlRead .test (first.getLsbD 0), .ctlDir .test .input] ++ s.trace
    pins := { s.pins with ctlDir := s.pins.ctlDir.set 10 .input (by decide) }
    answers := left, answered := s.answered + 1, seq := t.seq, work := t.work }
  op : t.seq.op = 2
  level : t.work.rdv.getLsbD 0 = first.getLsbD 0

theorem FirstSampled.running (h : FirstSampled s first left t) (hs : s.Idle) : t.Running := by
  rw [h.state]
  exact ⟨rfl, hs.2⟩

theorem activate_firstSampled (hs : s.Idle) (hmode : s.mode = .released) (hcfg : Spec.groupOk .act s.cfg = true)
    (ha : s.answers = first :: left) : ∃ t, Spec.execN .activate 3 s = .next t ∧ FirstSampled s first left t := by
  have haccept := exec_accepted (i := .activate) hs (by rw [hmode]; rfl) ((groupOk_act s.cfg).1.trans hcfg) rfl
  have hrunning : (accept (encode .activate) s).Running := ⟨rfl, hs.2⟩
  have hinput := exec_activate_input hrunning rfl
  have hsample := exec_activate_sample (s := Spec.atOp 1 (Spec.setDir .test .input (accept (encode .activate) s)))
    hrunning rfl
  rw [readCtl_eq .test (s := Spec.atOp 1 (Spec.setDir .test .input (accept (encode .activate) s))) ha] at hsample
  refine ⟨_, (execN_succ haccept 2).trans ((execN_succ hinput 1).trans (execN_succ hsample 0)), rfl, rfl, ?_⟩
  change (if first.getLsbD 0 then 1#16 else 0#16).getLsbD 0 = first.getLsbD 0
  cases first.getLsbD 0 <;> rfl

/-- R212: the state in which the confirmation of an accepted `ACTIVATE` begins, `TEST` driven active. -/
def activationDriven (s : State) (left : List (BitVec 16)) : State :=
  { Spec.accepted 0x01#64 s with
    trace := [.ctlWrite .test true, .ctlDir .test .output, .ctlRead .test false, .ctlDir .test .input] ++ s.trace
    pins := { s.pins with
      ctlDir := s.pins.ctlDir.set 10 .output (by decide)
      ctlOut := s.pins.ctlOut.set 10 true (by decide) }
    answers := left, answered := s.answered + 1 }

theorem FirstSampled.drive (h : FirstSampled s first left t) (hs : s.Idle) (hfirst : first.getLsbD 0 = false) :
    ∃ u, Spec.execN .activate 2 t = .next u ∧ LoopStart 4 (activationDriven s left) u := by
  have hrunning := h.running hs
  have houtput := exec_activate_output hrunning h.op (h.level.trans hfirst)
  have hdrive := exec_activate_drive (s := Spec.atOp 3 (Spec.setDir .test .output t)) hrunning rfl
  refine ⟨_, (execN_succ houtput 1).trans (execN_succ hdrive 0), ?_, rfl, rfl, rfl⟩
  have hpins : (s.pins.ctlDir.set 10 .input (by decide)).set 10 .output (by decide) =
      s.pins.ctlDir.set 10 .output (by decide) := Vector.set_set ..
  rw [h.state, activationDriven, ← hpins, hfirst]
  rfl

/-- R127, R212: an accepted `ACTIVATE` whose first sample reads inactive, up to its confirmation's last sample. -/
theorem activate_loopEnd (hs : s.Idle) (hmode : s.mode = .released) (hcfg : Spec.groupOk .act s.cfg = true)
    {l rest : List (BitVec 16)} (ha : s.answers = first :: (l ++ rest)) (hl : l.length = s.cfg.confirmLoops.toNat)
    (hfirst : first.getLsbD 0 = false) :
    ∃ n u, Spec.execN .activate n s = .next u ∧ LoopEnd 4 id (activationDriven s (l ++ rest)) l rest u := by
  obtain ⟨t, hrun, ht⟩ := activate_firstSampled hs hmode hcfg ha
  obtain ⟨v, hdrive, hv⟩ := ht.drive hs hfirst
  obtain ⟨u, hloop, hu⟩ := activate_confirmsAt.loop hv ⟨rfl, hs.2⟩ hl rfl
  exact ⟨_, u, (execN_trans hrun _).trans ((execN_trans hdrive _).trans hloop), hu⟩

end

/-- Settles O19: acceptance, the first sample, the drive, the confirmation, and its two ends. -/
theorem activateRun : Obligations.ActivateRun := by
  unfold Obligations.ActivateRun
  intro s first l rest hb
  have hidle {m : Mode} (hmode : s.mode = m) (hm : m ≠ .halted) : s.Idle := ⟨hb, hmode ▸ hm⟩
  refine ⟨fun hmode => ?owned, fun hmode hcfg => ?config, fun hmode hcfg ha hl hfirst => ?taken,
    fun hmode hcfg ha hl hfirst => ?free⟩
  case owned => exact exec_badState (hidle hmode (by decide)) (by rw [hmode]; rfl)
  case config =>
    exact exec_badConfig (hidle hmode (by decide)) (by rw [hmode]; rfl)
      ((groupOk_act s.cfg).1.trans (Bool.eq_false_iff.mpr hcfg))
  case taken =>
    have hs := hidle hmode (by decide)
    obtain ⟨t, hrun, ht⟩ := activate_firstSampled hs hmode hcfg ha
    have hend := exec_activate_taken (ht.running hs) ht.op (ht.level.trans hfirst)
    refine ⟨_, _, (execN_trans hrun 1).trans (execN_succ hend 0), ?_⟩
    rw [ht.state, hfirst]
    rfl
  case free =>
    have hs := hidle hmode (by decide)
    obtain ⟨n, u, hrun, hu⟩ := activate_loopEnd hs hmode hcfg ha hl hfirst
    have hrunning := hu.running ⟨rfl, hs.2⟩
    by_cases hhits : s.cfg.actPct.toNat * l.length ≤ (l.countP fun a => a.getLsbD 0) * 100
    · have hend := exec_activate_own hrunning hu.op hu.last (hu.enough.mpr hhits)
      exact ⟨_, _, u, (execN_trans hrun 1).trans (execN_succ hend 0), List.append_assoc .. ▸ hu.state, fun _ => rfl,
        fun hfew => absurd hhits (Nat.not_le.mpr hfew)⟩
    · have hend := exec_activate_fail hrunning hu.op hu.last (mt hu.enough.mp hhits)
      exact ⟨_, _, u, (execN_trans hrun 1).trans (execN_succ hend 0), List.append_assoc .. ▸ hu.state,
        fun hmany => absurd hmany hhits, fun _ => rfl⟩

/-! ### DEACTIVATE -/

/-- R215: the state in which the confirmation of an accepted `DEACTIVATE` begins, `TEST` driven inactive. -/
def deactivationDriven (s : State) : State :=
  { Spec.accepted 0x02#64 s with
    trace := .ctlWrite .test false :: s.trace
    pins := { s.pins with ctlOut := s.pins.ctlOut.set 10 false (by decide) } }

/-- R127, R215: an accepted `DEACTIVATE`, up to its confirmation's last sample. -/
theorem deactivate_loopEnd {s : State} (hs : s.Idle) (hmode : s.mode = .owned)
    (hcfg : Spec.groupOk .act s.cfg = true) {l rest : List (BitVec 16)} (ha : s.answers = l ++ rest)
    (hl : l.length = s.cfg.confirmLoops.toNat) :
    ∃ n u, Spec.execN .deactivate n s = .next u ∧ LoopEnd 1 not (deactivationDriven s) l rest u := by
  have haccept := exec_accepted (i := .deactivate) hs (by rw [hmode]; rfl) ((groupOk_act s.cfg).2.trans hcfg) rfl
  have hdrive := exec_deactivate_drive (s := accept (encode .deactivate) s) ⟨rfl, hs.2⟩ rfl
  have hstart : LoopStart 1 (deactivationDriven s)
      (Spec.atOp 1 (Spec.noHits (Spec.setOut .test false (accept (encode .deactivate) s)))) := ⟨rfl, rfl, rfl, rfl⟩
  obtain ⟨u, hloop, hu⟩ := deactivate_confirmsAt.loop hstart ⟨rfl, hs.2⟩ hl ha
  exact ⟨_, u, (execN_succ haccept _).trans ((execN_succ hdrive _).trans hloop), hu⟩

/-- R215: the confirmation has succeeded: the pin is released, then the bus is given back. -/
theorem deactivate_released {u : State} (hrunning : u.Running) (hop : u.seq.op = 1) (hlast : ¬ Spec.moreSamples u)
    (hhits : Spec.enoughHits u.cfg.actPct u) :
    Spec.execN .deactivate 2 u = .next
      (Spec.completed { Spec.atOp 3 (Spec.setDir .test .input u) with mode := .released }) := by
  have hend := exec_deactivate_end (s := Spec.atOp 3 (Spec.setDir .test .input u)) hrunning le_rfl
  rw [execN_succ (exec_deactivate_release hrunning hop hlast hhits), execN_succ hend, Spec.execN]

/-- Settles O21: acceptance, the drive, the confirmation, and its two ends. -/
theorem deactivateRun : Obligations.DeactivateRun := by
  unfold Obligations.DeactivateRun
  intro s l rest hb
  have hidle {m : Mode} (hmode : s.mode = m) (hm : m ≠ .halted) : s.Idle := ⟨hb, hmode ▸ hm⟩
  refine ⟨fun hmode => ?released, fun hmode hcfg => ?config, fun hmode hcfg ha hl => ?legal⟩
  case released => exact exec_badState (hidle hmode (by decide)) (by rw [hmode]; rfl)
  case config =>
    exact exec_badConfig (hidle hmode (by decide)) (by rw [hmode]; rfl)
      ((groupOk_act s.cfg).2.trans (Bool.eq_false_iff.mpr hcfg))
  case legal =>
    have hs := hidle hmode (by decide)
    obtain ⟨n, u, hrun, hu⟩ := deactivate_loopEnd hs hmode hcfg ha hl
    have hrunning := hu.running ⟨rfl, hs.2⟩
    by_cases hhits : s.cfg.actPct.toNat * l.length ≤ (l.countP fun a => !a.getLsbD 0) * 100
    · have hend := deactivate_released hrunning hu.op hu.last (hu.enough.mpr hhits)
      refine ⟨_, _, Spec.atOp 3 u, (execN_trans hrun 2).trans hend, ?_, fun _ => rfl,
        fun hfew => absurd hhits (Nat.not_le.mpr hfew)⟩
      rw [List.append_assoc]
      exact congrArg (Spec.atOp 3) hu.state
    · have hend := exec_deactivate_fail hrunning hu.op hu.last (mt hu.enough.mp hhits)
      exact ⟨_, _, u, (execN_trans hrun 1).trans (execN_succ hend 0), List.append_assoc .. ▸ hu.state,
        fun hmany => absurd hmany hhits, fun _ => rfl⟩

end Sys2Proof.Machine
end

section
/-! The counters of a TestResult (R236, R322): `Accumulate` (O46), and that every step of the machine keeps each
counter at most the total, and the total at most their sum (O54). -/

namespace Sys2Proof.Machine
open Sys2Proof

/-! ### Saturation (R10) -/

theorem sat32_toNat (n : Nat) : (sat32 n).toNat = min n 4294967295 := by
  simp only [sat32, BitVec.toNat_ofNat]
  omega

/-- A 32-bit counter is within the bound of saturation. -/
theorem min_toNat_eq (w : Word32) : min w.toNat 4294967295 = w.toNat := by
  have := w.isLt
  omega

/-- Saturation of a sum loses at least as much as saturation of its terms. -/
theorem min_sum_le (x : Fin 8 → ℕ) (m : ℕ) : min (∑ i, x i) m ≤ ∑ i, min (x i) m :=
  Finset.le_sum_of_subadditive (min · m) (Nat.zero_min m).le (fun _ _ => by omega) Finset.univ x

theorem sound_iff (r : TestResult) :
    r.Sound ↔ (∀ i, (r.bit.get i).toNat ≤ r.total.toNat) ∧ r.total.toNat ≤ ∑ i, (r.bit.get i).toNat := by
  rw [TestResult.Sound, Fin.sum_univ_def]

theorem sound_zero : TestResult.zero.Sound := (sound_iff _).mpr (by simp [TestResult.zero])

/-- R10: counters that saturate are sound if the numbers they stand for are. -/
theorem sound_of_saturated {r : TestResult} {n : ℕ} {x : Fin 8 → ℕ} (htotal : r.total = sat32 n)
    (hbit : ∀ i, r.bit.get i = sat32 (x i)) (hle : ∀ i, x i ≤ n) (hsum : n ≤ ∑ i, x i) : r.Sound := by
  simp only [sound_iff, htotal, hbit, sat32_toNat]
  exact ⟨fun i => min_le_min_right _ (hle i), (min_le_min_right _ hsum).trans (min_sum_le x _)⟩

/-! ### Accumulate (R236) -/

theorem accumulate_match (r : TestResult) (e : Byte) : r.accumulate e e = r := if_pos rfl

/-- R236: what a comparison of the bytes `e` and `x` adds to the counter of bit `i`. -/
def bitIncrement (e x : Byte) (i : Fin 8) : ℕ := if (e ^^^ x).getLsbD i.val then 1 else 0

theorem accumulate_mismatch_total (r : TestResult) {e x : Byte} (h : e ≠ x) :
    (r.accumulate e x).total = sat32 (r.total.toNat + 1) := by
  rw [TestResult.accumulate, if_neg h]

theorem accumulate_mismatch_bit (r : TestResult) {e x : Byte} (h : e ≠ x) (i : Fin 8) :
    (r.accumulate e x).bit.get i =
      if (e ^^^ x).getLsbD i.val then sat32 ((r.bit.get i).toNat + 1) else r.bit.get i := by
  rw [TestResult.accumulate, if_neg h, vec8_get]

/-- A counter that is not counted up is left where saturation leaves it. -/
theorem accumulate_mismatch_bit_saturated (r : TestResult) {e x : Byte} (h : e ≠ x) (i : Fin 8) :
    (r.accumulate e x).bit.get i = sat32 ((r.bit.get i).toNat + bitIncrement e x i) := by
  rw [accumulate_mismatch_bit r h, bitIncrement]
  split
  · rfl
  · apply BitVec.eq_of_toNat_eq
    rw [sat32_toNat, Nat.add_zero, min_toNat_eq]

/-- Different bytes differ in some bit. -/
theorem one_le_sum_bitIncrement {e x : Byte} (h : e ≠ x) : 1 ≤ ∑ i, bitIncrement e x i := by
  obtain ⟨i, hi⟩ : ∃ i : Fin 8, (e ^^^ x).getLsbD i.val = true := by
    by_contra hnone
    push Not at hnone
    refine h (BitVec.eq_of_getLsbD_eq fun k hk => ?_)
    simpa using hnone ⟨k, hk⟩
  calc 1 = bitIncrement e x i := by rw [bitIncrement, if_pos hi]
    _ ≤ ∑ i, bitIncrement e x i := Finset.single_le_sum (fun _ _ => Nat.zero_le _) (Finset.mem_univ i)

theorem TestResult.Sound.accumulate {r : TestResult} (hr : r.Sound) (e x : Byte) : (r.accumulate e x).Sound := by
  by_cases h : e = x
  case pos => rwa [h, accumulate_match]
  case neg =>
    obtain ⟨hle, hsum⟩ := (sound_iff r).mp hr
    refine sound_of_saturated (accumulate_mismatch_total r h) (accumulate_mismatch_bit_saturated r h)
      (fun i => Nat.add_le_add (hle i) ?_) ?_
    · unfold bitIncrement
      split <;> decide
    · rw [Finset.sum_add_distrib]
      exact Nat.add_le_add hsum (one_le_sum_bitIncrement h)

theorem counted_accumulate (r : TestResult) (e x : Byte) : Spec.counted r e x (r.accumulate e x) := by
  unfold Spec.counted
  split
  case isTrue h => rw [h, accumulate_match]
  case isFalse h => exact ⟨accumulate_mismatch_total r h, accumulate_mismatch_bit r h⟩

/-- R236: the total tells whether any bit has failed. -/
theorem TestResult.Sound.total_eq_zero_iff {r : TestResult} (hr : r.Sound) :
    r.total = 0#32 ↔ ∀ b : Fin 8, r.bit.get b = 0#32 := by
  obtain ⟨hle, hsum⟩ := (sound_iff r).mp hr
  constructor
  · intro h b
    have hb := hle b
    rw [h] at hb
    exact BitVec.eq_of_toNat_eq (Nat.le_zero.mp hb)
  · intro h
    simp only [h, BitVec.toNat_zero, Finset.sum_const_zero] at hsum
    exact BitVec.eq_of_toNat_eq (Nat.le_zero.mp hsum)

/-- Settles O46: by the counters after a match and after a mismatch. -/
theorem accumulateRule : Obligations.AccumulateRule := by
  unfold Obligations.AccumulateRule
  exact ⟨counted_accumulate, fun _ e x hr => hr.accumulate e x, fun _ hr => hr.total_eq_zero_iff⟩

/-! ### AggFold (R322) -/

theorem TestResult.Sound.fold {a r : TestResult} (ha : a.Sound) (hr : r.Sound) : (a.fold r).Sound := by
  obtain ⟨hale, hasum⟩ := (sound_iff a).mp ha
  obtain ⟨hrle, hrsum⟩ := (sound_iff r).mp hr
  refine sound_of_saturated rfl (vec8_get _) (fun i => Nat.add_le_add (hale i) (hrle i)) ?_
  rw [Finset.sum_add_distrib]
  exact Nat.add_le_add hasum hrsum

/-! ### The counters among the results -/

/-- R236, R322, R325: the counters of the last algorithm, of the aggregate and of the log are sound. -/
def Results.CountersSound (r : Results) : Prop :=
  r.tr.Sound ∧ r.agg.Sound ∧ ∀ c, (r.slog.get c).result.Sound

theorem countersInv_iff (s : State) : CountersInv s ↔ s.res.CountersSound := .rfl

@[simp] theorem writeFaultyMask_counters (s : State) :
    (writeFaultyMask s).res.CountersSound ↔ s.res.CountersSound := .rfl

theorem emptyLog_get (c : Fin 19) : Results.emptyLog.get c = .zero := by
  simp [Results.emptyLog, Vector.get_eq_getElem]

theorem countersSound_zero : Results.zero.CountersSound := by
  refine ⟨sound_zero, sound_zero, fun c => ?_⟩
  change (Results.emptyLog.get c).result.Sound
  rw [emptyLog_get]
  exact sound_zero

/-! ### One step of a memory algorithm (R235, R236) -/

section
variable {s : State} (hs : s.res.tr.Sound)
include hs

theorem cellRead_trSound (v : CellVal) : (cellRead v s).res.tr.Sound := by
  rw [cellRead, accumulate_eq, cellFetch_eq]
  exact hs.accumulate _ _

theorem rstopTurn_trSound (d : PassDir) (ops : List CellOp) (v : CellVal) (n : Nat) :
    (rstopTurn d ops v n s).res.tr.Sound := by
  obtain ⟨-, h⟩ | ⟨-, -, h⟩ | ⟨-, -, h⟩ := rstopTurn_cases d ops v n s <;> rw [h]
  · simpa using hs
  · simpa [accumulate_eq] using hs.accumulate _ _
  · simpa using hs

theorem passStep_trSound (d : PassDir) (ops : List CellOp) : (passStep d ops s).res.tr.Sound := by
  unfold passStep cellOp
  split
  · split
    · simpa using hs
    · simpa using cellRead_trSound hs _
    · simpa using hs
    · exact rstopTurn_trSound hs ..
  · simpa using hs

theorem memBody_trSound (top : Bool) (pat : Option Byte) (phases : List MemPhase) :
    (memBody top pat phases s).state.res.tr.Sound := by
  obtain ⟨-, h⟩ | ⟨j, -, -, h⟩ | ⟨j, d, ops, -, -, -, h⟩ | ⟨j, ms, n, -, -, -, h⟩ | ⟨j, p, -, -, h⟩ :=
    memBody_cases top pat phases s <;> rw [h]
  · simpa [clearTr] using sound_zero
  · exact hs
  · exact passStep_trSound hs d ops
  · simpa using hs
  · unfold endPhase
    split <;> simpa using hs

end

/-! ### One step of every body -/

section
variable {s : State} (hs : s.res.CountersSound)
include hs

theorem memBody_counters (top : Bool) (pat : Option Byte) (phases : List MemPhase) :
    (memBody top pat phases s).state.res.CountersSound := by
  rw [memBody_writesTr s top pat phases]
  exact ⟨memBody_trSound hs.1 top pat phases, hs.2⟩

theorem memAlgorithmBody_counters (i : Instr) : (memAlgorithmBody i s).state.res.CountersSound := by
  obtain h | ⟨pat, phases, h⟩ := memAlgorithmBody_eq i s <;> rw [h]
  · exact hs
  · exact memBody_counters hs false pat phases

/-- R325: the log has the new entry at its call, and the others where they were. -/
theorem callRecorded_counters : (callRecorded s).res.CountersSound := by
  obtain ⟨htr, hagg, hslog⟩ := hs
  refine ⟨htr, hagg.fold htr, fun c => ?_⟩
  change ((s.res.slog.setIfInBounds _ _).get c).result.Sound
  rw [Vector.get_eq_getElem, Vector.getElem_setIfInBounds]
  split
  · exact htr
  · exact hslog c

theorem suiteBody_counters (top : Bool) : (suiteBody top s).state.res.CountersSound := by
  have hcall := memAlgorithmBody_counters hs (suiteCall s.cfg s.seq.call)
  generalize hr : suiteBody top s = r
  have hstep : SuiteStep top s r := hr ▸ suiteBody_step top s
  cases hstep with
  | prologue => exact countersSound_zero
  | cancel => exact hs
  | call _ t h => rwa [h] at hcall
  | nextCall t h | last t h =>
    rw [h] at hcall
    simpa using callRecorded_counters hcall

theorem verifyBusBody_counters (top : Bool) (b : Bus) : (verifyBusBody b top s).state.res.CountersSound := by
  obtain h | ⟨high, low, h⟩ := verifyBusBody_res s top b <;> rw [h]
  · exact hs
  · cases b <;> exact hs

/-- The records of the bus tests, the snapshot and the crosstalk masks stand apart from the counters. -/
theorem bodyIn_counters {i : Instr} (hi : i ≠ .fullpass) (top : Bool) :
    (bodyIn top i s).state.res.CountersSound := by
  cases hrow : memTable i with
  | some row => rw [bodyIn_of_memTable hrow]; exact memBody_counters hs top row.1 row.2
  | none =>
    cases i with
    | nop => exact hs
    | clear => exact countersSound_zero
    | activate => exact (activateBody_res s).symm ▸ hs
    | deactivate => exact (deactivateBody_res s).symm ▸ hs
    | verifyData => exact verifyBusBody_counters hs top .data
    | verifyAddr => exact verifyBusBody_counters hs top .address
    | verifyCtrl =>
      obtain h | ⟨high, low, h⟩ := verifyCtrlBody_res s top <;> simp only [bodyIn, h]
      exacts [hs, hs]
    | sample =>
      obtain h | h := sampleBody_res s <;> simp only [bodyIn, h]
      exacts [hs, hs]
    | crosstalk =>
      obtain h | ⟨src, dst, h⟩ | h := crosstalkBody_res s top <;> simp only [bodyIn, h]
      exacts [hs, hs, hs]
    | suite => exact suiteBody_counters hs top
    | fullpass => exact absurd rfl hi
    | _ => cases hrow

end

/-- Settles O54: the counters are an invariant of the results, with no part that depends on the running command. -/
theorem countersKept : Obligations.CountersKept := by
  unfold Obligations.CountersKept
  intro s t hs h
  have hkept : StageInv .crosstalk CountersInv (fun _ => True) t := by
    refine stageInv_kept (by decide) (fun _ _ => trivial) (fun {s t} h _ hs => ?_) (fun {s t} h _ _ => ?_)
      countersSound_zero (fun i top s hi hs => ?_) ⟨hs, fun _ _ => trivial⟩ h
    · rwa [countersInv_iff, h]
    · rw [countersInv_iff, h]; exact countersSound_zero
    · exact (comes_self (P := CountersInv) (bodyIn_counters hs.1 hi top)).mono (fun t h => ⟨h, fun _ _ => trivial⟩)
        (fun t h => h) fun t h => ⟨h, fun _ _ => trivial⟩
  exact hkept.1

end Sys2Proof.Machine
end

section
/-! The pass tables of the obligations (R232 to R257, R270 to R273, R281 to R285, R302, R312) against the model's:
the same passes, with the same operations and the same bytes. -/

namespace Sys2Proof.Machine
open Sys2Proof

/-! ### The value functions (R234) -/

theorem parity_eq_odd (a : Addr) : parity a = Spec.odd a := by
  simp [parity, Spec.odd, BitVec.getLsbD, Nat.testBit_zero]

theorem not_eq_xor (p : Byte) : ~~~p = p ^^^ 0xFF#8 := BitVec.xor_allOnes.symm

theorem at_pat (p : Byte) : (CellVal.pat p).at = Spec.const p := rfl

theorem at_inv (p : Byte) : (CellVal.inv p).at = Spec.const (p ^^^ 0xFF#8) :=
  funext fun _ => not_eq_xor p

/-- R241. -/
theorem at_tog (p : Byte) (t : Bool) : (CellVal.tog p t).at = Spec.tog p t := by
  funext a
  simp [CellVal.at, Spec.tog, parity_eq_odd, not_eq_xor]

/-- R247. -/
theorem at_chk (t : Bool) : (CellVal.chk t).at = Spec.chk t := by
  funext a
  rw [CellVal.at, Spec.chk, parity_eq_odd]
  cases Spec.odd a <;> cases t <;> rfl

/-- R253. -/
theorem at_uniq (p : Byte) : (CellVal.uniq p).at = Spec.uniq p := by
  funext a
  have hlow : a.setWidth 8 = BitVec.ofNat 8 (a.toNat % 256) := BitVec.eq_of_toNat_eq (by simp)
  rw [CellVal.at, Spec.uniq, hlow]

/-- R270: the eight patterns of each walking bit. -/
theorem at_walk {b : Nat} (hb : b < 8) :
    (CellVal.walk1 (BitVec.ofNat 4 b)).at = Spec.const (BitVec.ofNat 8 (2 ^ b)) ∧
    (CellVal.walk0 (BitVec.ofNat 4 b)).at = Spec.const (BitVec.ofNat 8 (255 - 2 ^ b)) := by
  interval_cases b <;> exact ⟨rfl, rfl⟩

/-! ### Operations, phases and tables -/

/-- R232: whether a pass descends. -/
def PassDir.descends : PassDir → Bool
  | .asc => false
  | .desc => true

/-- R233: an operation of the model in the terms of the obligations. -/
def specOp : CellOp → Spec.CellStep
  | .w v => .write v.at
  | .r v => .compare v.at
  | .rd => .discard
  | .rstop v n => .repeatStop v.at n

/-- R232, R311: a phase of the model in the terms of the obligations. -/
def specPhase : MemPhase → Spec.Phase
  | .pass d ops => .pass d.descends (ops.map specOp)
  | .wait ms n => .wait ms n

theorem specOp_eq_write {o : CellOp} {f : Addr → Byte} (h : specOp o = .write f) : ∃ v, o = .w v ∧ f = v.at := by
  cases o <;> cases h
  exact ⟨_, rfl, rfl⟩

theorem specOp_eq_compare {o : CellOp} {f : Addr → Byte} (h : specOp o = .compare f) :
    ∃ v, o = .r v ∧ f = v.at := by
  cases o <;> cases h
  exact ⟨_, rfl, rfl⟩

theorem specOp_eq_discard {o : CellOp} (h : specOp o = .discard) : o = .rd := by
  cases o <;> cases h
  rfl

theorem specOp_eq_repeatStop {o : CellOp} {f : Addr → Byte} {n : Nat} (h : specOp o = .repeatStop f n) :
    ∃ v, o = .rstop v n ∧ f = v.at := by
  cases o <;> cases h
  exact ⟨_, rfl, rfl⟩

theorem specPhase_eq_pass {p : MemPhase} {desc : Bool} {sops : List Spec.CellStep}
    (h : specPhase p = .pass desc sops) :
    ∃ d ops, p = .pass d ops ∧ desc = d.descends ∧ sops = ops.map specOp := by
  cases p <;> cases h
  exact ⟨_, _, rfl, rfl, rfl⟩

/-- R272, R273: the passes of a walking bit, whose pattern `f` is for the obligations. -/
theorem walkTable_eq {pattern : BitVec 4 → CellVal} {f : Nat → Byte}
    (h : ∀ b < 8, (pattern (BitVec.ofNat 4 b)).at = Spec.const (f b)) :
    (walkTable pattern).map specPhase = Spec.walk f := by
  have horder : walkOrder = (List.range 8).map (BitVec.ofNat 4) := rfl
  rw [walkTable, horder, List.flatMap_map, List.map_flatMap, Spec.walk]
  refine List.flatMap_congr fun b hb => ?_
  simp [specPhase, specOp, PassDir.descends, h b (List.mem_range.mp hb)]

theorem repwriteTable_eq (p : Byte) (t : Bool) :
    repwriteTable p t = [.pass .asc [.w (.tog p t), .w (.tog p t), .w (.tog p t), .w (.tog p t), .w (.tog p t)],
      .pass .asc [.r (.tog p t)]] := rfl

theorem repreadTable_eq (p : Byte) :
    repreadTable p = [.pass .asc [.w (.pat p)], .pass .asc [.rd, .rd, .rd, .rd, .r (.pat p)]] := rfl

/-- R123: the operand of the model's table is the obligations'. -/
theorem pattern_of_memTable {i : Instr} {pat : Option Byte} {phases : List MemPhase}
    (h : memTable i = some (pat, phases)) : Spec.pattern i = pat := by
  cases i <;> cases h <;> rfl

/-- The tables of the obligations are the model's. -/
theorem phases_of_memTable {i : Instr} {pat : Option Byte} {phases : List MemPhase}
    (h : memTable i = some (pat, phases)) : Spec.phases i = phases.map specPhase := by
  cases i <;> cases h
  case walk1 => exact (walkTable_eq fun b hb => (at_walk hb).1).symm
  case walk0 => exact (walkTable_eq fun b hb => (at_walk hb).2).symm
  case repwrite p t => simp [Spec.phases, repwriteTable_eq, specPhase, specOp, PassDir.descends, at_tog]
  case repread p => rfl
  case checker t => simp [Spec.phases, checkerTable, specPhase, specOp, PassDir.descends, at_chk]
  case movinv p => simp [Spec.phases, movinvTable, specPhase, specOp, PassDir.descends, at_pat, at_inv]
  case addruniq p => simp [Spec.phases, addruniqTable, specPhase, specOp, PassDir.descends, at_uniq]
  all_goals rfl

/-! ### What an operation loads (R51) -/

/-- R233: the operations of a phase on each cell; the wait has none. -/
def MemPhase.ops : MemPhase → List CellOp
  | .pass _ ops => ops
  | .wait _ _ => []

/-- R51: an operation that compares or writes loads `PAT` with `pat` and `BITIX` with `bitix`, where there is one; a
repeated read has no walking bit. -/
def CellOp.Takes (pat : Option Byte) (bitix : Option (BitVec 4)) : CellOp → Prop
  | .w v | .r v => ∀ w : Work, v.load w = { w with pat := pat.getD w.pat, bitix := bitix.getD w.bitix }
  | .rd => True
  | .rstop v _ => ∀ w : Work, v.load w = { w with pat := pat.getD w.pat }

/-- R272, R273: the walking bit of phase `k + 1`. -/
def walkIndex (i : Instr) (k : Nat) : Option (BitVec 4) :=
  match i with
  | .walk1 | .walk0 => some (BitVec.ofNat 4 (k / 2))
  | _ => none

theorem bitixOf_eq (i : Instr) {s : State} {k : Nat} (hk : s.seq.phase = k + 1) :
    Spec.bitixOf i s = (walkIndex i k).getD s.work.bitix := by
  cases i <;> simp [Spec.bitixOf, walkIndex, hk]

/-- R272, R273: both passes of a walking bit take its pattern. -/
theorem walkTable_takes {pattern : BitVec 4 → CellVal} (hload : ∀ b w, (pattern b).load w = { w with bitix := b })
    {k : Nat} {p : MemPhase} (hp : (walkTable pattern)[k]? = some p) :
    ∀ o ∈ p.ops, o.Takes none (some (BitVec.ofNat 4 (k / 2))) := by
  have hk : k < 16 := (List.getElem?_eq_some_iff.mp hp).1
  interval_cases k <;> cases hp <;> simp [MemPhase.ops, CellOp.Takes, hload]

/-- The operations of every table take the operand of the command and the walking bit of their pass. -/
theorem memTable_takes {i : Instr} {pat : Option Byte} {phases : List MemPhase}
    (h : memTable i = some (pat, phases)) {k : Nat} {p : MemPhase} (hp : phases[k]? = some p) :
    ∀ o ∈ p.ops, o.Takes pat (walkIndex i k) := by
  have hmem := List.mem_of_getElem? hp
  cases i <;> cases h
  case walk1 => exact walkTable_takes (fun _ _ => rfl) hp
  case walk0 => exact walkTable_takes (fun _ _ => rfl) hp
  all_goals
    clear hp
    revert p
    simp [repwriteTable_eq, repreadTable_eq, checkerTable, marchcTable, marchssTable, marchlaTable, movinvTable,
      retentionTable, readdestrTable, addruniqTable, w0, w1, r0, r1, MemPhase.ops, CellOp.Takes, CellVal.load,
      walkIndex]

/-! ### Where a phase and an operation lead (R94, R232) -/

theorem next_eq_afterCell (d : PassDir) (len k : Nat) : d.next len k = Spec.afterCell d.descends len k := by
  cases d <;> rfl

theorem first_eq_head (d : PassDir) (len : Nat) :
    d.first len = ((Spec.cells d.descends len).head?).getD 65536 := by
  cases len with
  | zero => cases d <;> rfl
  | succ n =>
    cases d with
    | asc => simp [PassDir.first, PassDir.descends, Spec.cells, List.head?_range]
    | desc => simp [PassDir.first, PassDir.descends, Spec.cells, List.range_succ]

theorem nextOp_eq_afterOp (d : PassDir) (ops : List CellOp) (s : State) :
    nextOp d ops s = { s with seq := Spec.afterOp d.descends (ops.map specOp) s } := by
  rw [nextOp_eq, Spec.afterOp, List.length_map, next_eq_afterCell]

theorem enterPhase_eq_spec (phases : List MemPhase) (j : Nat) (s : State) :
    enterPhase phases j s = { s with
      work := { s.work with rdcnt := Spec.rdcntAt (phases.map specPhase)[j]? s }
      seq := { s.seq with
        phase := j + 1, op := 0, sample := 0
        posk := Spec.firstCell (phases.map specPhase)[j]? s.region.length.toNat } } := by
  rw [enterPhase_eq, List.getElem?_map]
  cases phases[j]? with
  | none => rfl
  | some p =>
    cases p with
    | pass d ops =>
      dsimp only [Option.map_some, specPhase, Spec.rdcntAt, Spec.firstCell]
      rw [first_eq_head]
    | wait ms n => rfl

end Sys2Proof.Machine
end

section
/-! The steps of the memory algorithms in the terms of the statements: O27 to O31 and O33. -/

namespace Sys2Proof.Machine
open Sys2Proof

/-! ### Which step a memory algorithm takes -/

theorem memTable_of_phase {i : Instr} {k : Nat} {p : Spec.Phase} (h : (Spec.phases i)[k]? = some p) :
    ∃ pat phases, memTable i = some (pat, phases) := by
  obtain ⟨⟨pat, phases⟩, hrow⟩ := memTable_of_phases (i := i) fun hnil => by simp [hnil] at h
  exact ⟨pat, phases, hrow⟩

theorem exec_memTable {i : Instr} {pat : Option Byte} {phases : List MemPhase} (hi : memTable i = some (pat, phases))
    {s : State} (hs : s.Running) : exec i s = .next (finish (memBody true pat phases s)) := by
  rw [exec_running hs.1 hs.2, bodyOf_of_memTable hi]

section
variable {phases : List MemPhase} {s : State} {k : Nat} (hk : s.seq.phase = k + 1) (top : Bool) (pat : Option Byte)
include hk

/-- R232: before its terminal value, `POSK` is at a cell of the pass. -/
theorem memBody_pass {d : PassDir} {ops : List CellOp} (hp : phases[k]? = some (.pass d ops))
    (hpos : s.seq.posk < 65536) : memBody top pat phases s = .more (passStep d ops s) := by
  unfold memBody
  rw [hk]
  dsimp only
  rw [hp]
  exact if_pos hpos

theorem memBody_passEnd {d : PassDir} {ops : List CellOp} (hp : phases[k]? = some (.pass d ops))
    (hpos : s.seq.posk = 65536) : memBody top pat phases s = endPhase top phases (k + 1) s := by
  unfold memBody
  rw [hk]
  dsimp only
  rw [hp]
  exact if_neg (hpos ▸ lt_irrefl _)

end

theorem memBody_prologue {s : State} (h : s.seq.phase = 0) (top : Bool) (pat : Option Byte)
    (phases : List MemPhase) :
    memBody top pat phases s = .more (enterPhase phases 0 (clearTr (loadPattern pat s))) := by
  unfold memBody
  rw [h]

theorem passStep_op {d : PassDir} {ops : List CellOp} {o : CellOp} {s : State} (h : ops[s.seq.op]? = some o) :
    passStep d ops s = cellOp d ops o s := by
  unfold passStep
  rw [h]

/-- Command `i` is at the operation `o` of a pass of its table. -/
structure AtOp (i : Instr) (s : State) (d : PassDir) (ops : List CellOp) (o : CellOp) : Prop where
  exec_eq : exec i s = .next (cellOp d ops o s)
  takes : ∃ bitix : Option (BitVec 4), o.Takes (Spec.pattern i) bitix ∧
    Spec.bitixOf i s = bitix.getD s.work.bitix

/-- R232, R233: where the table of the obligations has an operation, the model does that operation. -/
theorem atOp_of_stands {i : Instr} {s : State} {desc : Bool} {sops : List Spec.CellStep} {so : Spec.CellStep}
    (hs : s.Running) (h : Spec.stands i s desc sops so) :
    ∃ d ops o, desc = d.descends ∧ sops = ops.map specOp ∧ specOp o = so ∧ AtOp i s d ops o := by
  obtain ⟨hphase, hpass, hop, hpos, hlen⟩ := h
  obtain ⟨pat, phases, hi⟩ := memTable_of_phase hpass
  obtain ⟨p, hp, hspec⟩ : ∃ p, phases[s.seq.phase - 1]? = some p ∧ specPhase p = .pass desc sops := by
    rwa [phases_of_memTable hi, List.getElem?_map, Option.map_eq_some_iff] at hpass
  obtain ⟨d, ops, rfl, rfl, rfl⟩ := specPhase_eq_pass hspec
  obtain ⟨o, ho, rfl⟩ : ∃ o, ops[s.seq.op]? = some o ∧ specOp o = so := by
    rwa [List.getElem?_map, Option.map_eq_some_iff] at hop
  have hk : s.seq.phase = (s.seq.phase - 1) + 1 := by omega
  have htakes := memTable_takes hi hp o (List.mem_of_getElem? ho)
  rw [← pattern_of_memTable hi] at htakes
  refine ⟨d, ops, o, rfl, rfl, rfl, ?_, _, htakes, bitixOf_eq i hk⟩
  rw [exec_memTable hi hs, memBody_pass hk true pat hp (hpos.trans_le hlen), passStep_op ho, finish_more]

/-! ### A write, a compared and a discarded read (R233) -/

/-- Settles O28: the operation the model is at is a write, and loads what the statement names. -/
theorem memoryWriteStep : Obligations.MemoryWriteStep := by
  unfold Obligations.MemoryWriteStep
  intro i s desc sops f hs h
  obtain ⟨d, ops, o, rfl, rfl, ho, hat⟩ := atOp_of_stands hs h
  obtain ⟨v, rfl, rfl⟩ := specOp_eq_write ho
  obtain ⟨bitix, hload, hbitix⟩ := hat.takes
  rw [hat.exec_eq, hbitix, ← addr_eq_cellAddr]
  change Host.Outcome.next (nextOp d ops (cellWrite v s)) = _
  rw [nextOp_eq_afterOp, cellWrite_eq, hload]
  rfl

/-- Settles O30: the operation the model is at is a discarded read, which loads no operand. -/
theorem memoryDiscardStep : Obligations.MemoryDiscardStep := by
  unfold Obligations.MemoryDiscardStep
  intro i s desc sops hs h
  obtain ⟨d, ops, o, rfl, rfl, ho, hat⟩ := atOp_of_stands hs h
  obtain rfl := specOp_eq_discard ho
  rw [hat.exec_eq, ← addr_eq_cellAddr]
  change Host.Outcome.next (nextOp d ops (cellReadDiscard s)) = _
  rw [nextOp_eq_afterOp, cellReadDiscard_eq]
  rfl

/-- R51: a byte read is held in `RDV` zero-extended. -/
theorem byte_of_rdv (x : Byte) : (x.setWidth 16).setWidth 8 = x := by
  rw [BitVec.setWidth_setWidth_of_le x (by decide), BitVec.setWidth_eq]

/-- R233, R236: the byte that answers a compared read is the one that is counted. -/
theorem cellRead_eq (v : CellVal) (s : State) :
    cellRead v s = { cellFetch v s with
      res := { s.res with tr := s.res.tr.accumulate (v.at (s.region.addr s.seq.posk)) (Spec.byteRead s) } } := by
  rw [cellRead, accumulate_eq, cellFetch_eq]
  dsimp only
  rw [byte_of_rdv]
  rfl

/-- Settles O29: the operation the model is at is a compared read, which counts the byte that answers it. -/
theorem memoryCompareStep : Obligations.MemoryCompareStep := by
  unfold Obligations.MemoryCompareStep
  intro i s desc sops f hs h
  obtain ⟨d, ops, o, rfl, rfl, ho, hat⟩ := atOp_of_stands hs h
  obtain ⟨v, rfl, rfl⟩ := specOp_eq_compare ho
  obtain ⟨bitix, hload, hbitix⟩ := hat.takes
  have hexec : exec i s = .next (nextOp d ops (cellRead v s)) := hat.exec_eq
  rw [nextOp_eq_afterOp, cellRead_eq, cellFetch_eq, hload] at hexec
  rw [hbitix, ← addr_eq_cellAddr]
  exact ⟨_, hexec, counted_accumulate .., rfl⟩

/-! ### The repeated read (R250) -/

/-- R250: the reads counted where a turn begins. -/
theorem rstopBegin_rdcnt (s : State) : (rstopBegin s).work.rdcnt = Spec.readsDone s := by
  rw [rstopBegin_eq]
  rfl

/-- R250: a read of a turn, counted in `RDCNT`, not yet compared. -/
theorem rstopRead_eq {v : CellVal} {pat : Option Byte} (hload : ∀ w : Work, v.load w = { w with pat := pat.getD w.pat })
    (s : State) :
    countRead (cellFetch v (rstopBegin s)) = { s with
      work := { s.work with
        a := s.region.addr s.seq.posk, exp := v.at (s.region.addr s.seq.posk)
        rdv := (Spec.byteRead s).setWidth 16, pat := pat.getD s.work.pat, rdcnt := Spec.readsDone s + 1#8 }
      answers := s.answers.tail, answered := s.answered + 1
      trace := .memRead (s.region.addr s.seq.posk) (Spec.byteRead s) :: s.trace } := by
  rw [countRead_eq, cellFetch_eq, hload, rstopBegin_eq]
  rfl

theorem mismatch_rstopRead {v : CellVal} {pat : Option Byte}
    (hload : ∀ w : Work, v.load w = { w with pat := pat.getD w.pat }) (s : State) :
    (countRead (cellFetch v (rstopBegin s))).mismatch =
      (Spec.byteRead s != v.at (s.region.addr s.seq.posk)) := by
  rw [rstopRead_eq hload, State.mismatch]
  dsimp only
  rw [byte_of_rdv]

/-- Settles O31: a turn of the repeated read by what it can do. -/
theorem readUntilMismatchStep : Obligations.ReadUntilMismatchStep := by
  unfold Obligations.ReadUntilMismatchStep
  intro i s desc sops f n hs h
  obtain ⟨d, ops, o, rfl, rfl, ho, hat⟩ := atOp_of_stands hs h
  obtain ⟨v, rfl, rfl⟩ := specOp_eq_repeatStop ho
  obtain ⟨_, hload, -⟩ := hat.takes
  have hexec : exec i s = .next (rstopTurn d ops v n s) := hat.exec_eq
  have hturn := rstopTurn_cases d ops v n s
  rw [rstopBegin_rdcnt, mismatch_rstopRead hload, rstopRead_eq hload] at hturn
  rw [← addr_eq_cellAddr]
  obtain ⟨hn, hturn⟩ | ⟨hn, hne, hturn⟩ | ⟨hn, heq, hturn⟩ := hturn <;> rw [hturn] at hexec
  · refine ⟨fun _ => ?_, fun h => absurd h (Nat.not_lt.mpr hn)⟩
    rw [hexec, nextOp_eq_afterOp, rstopBegin_eq]
    rfl
  · refine ⟨fun h => absurd h (Nat.not_le.mpr hn), fun _ => ?_⟩
    rw [nextOp_eq_afterOp, accumulate_eq] at hexec
    dsimp only at hexec
    rw [byte_of_rdv] at hexec
    rw [if_neg (by simpa using hne)]
    exact ⟨_, hexec, counted_accumulate .., rfl⟩
  · refine ⟨fun h => absurd h (Nat.not_le.mpr hn), fun _ => ?_⟩
    have hbyte : Spec.byteRead s = v.at (s.region.addr s.seq.posk) := by simpa using heq
    have hcounted : Spec.counted s.res.tr (v.at (s.region.addr s.seq.posk)) (Spec.byteRead s) s.res.tr := by
      rw [Spec.counted, if_pos hbyte.symm]
    rw [if_pos hbyte]
    exact ⟨_, hexec, hcounted, rfl⟩

/-! ### The prologue and the end of a pass (R235, R237) -/

/-- Every table begins with a pass. -/
theorem rdcntAt_first {i : Instr} (s : State) : Spec.rdcntAt (Spec.phases i)[0]? s = s.work.rdcnt := by
  cases i <;> rfl

/-- Settles O27: the prologue clears `TR`, loads the operand and enters the first phase, a pass. -/
theorem memoryPrologue : Obligations.MemoryPrologue := by
  unfold Obligations.MemoryPrologue
  intro i s hs hphases hphase
  obtain ⟨⟨pat, phases⟩, hi⟩ := memTable_of_phases hphases
  have hexec := exec_memTable hi hs
  rw [memBody_prologue hphase, finish_more, enterPhase_eq_spec, ← phases_of_memTable hi, rdcntAt_first] at hexec
  refine ⟨_, hexec, rfl, fun b => vec8_get _ b, ?_⟩
  rw [Spec.patOf, pattern_of_memTable hi]
  rfl

/-- Settles O33: past its last cell a pass ends, and the next phase is entered or the command completes. -/
theorem memoryPassEnd : Obligations.MemoryPassEnd := by
  unfold Obligations.MemoryPassEnd
  intro i s j desc sops hs hphase hpass hpos
  obtain ⟨pat, phases, hi⟩ := memTable_of_phase hpass
  have htable := phases_of_memTable hi
  have hlen : (Spec.phases i).length = phases.length := by rw [htable, List.length_map]
  obtain ⟨p, hp, hspec⟩ : ∃ p, phases[j]? = some p ∧ specPhase p = .pass desc sops := by
    rwa [htable, List.getElem?_map, Option.map_eq_some_iff] at hpass
  obtain ⟨d, ops, rfl, -, -⟩ := specPhase_eq_pass hspec
  rw [exec_memTable hi hs, memBody_passEnd hphase true pat hp hpos, endPhase, hlen]
  refine ⟨fun hnext => ?_, fun hlast => ?_⟩
  · rw [if_pos hnext, finish_more, enterPhase_eq_spec, ← htable]
    rfl
  · rw [if_neg (by omega)]
    rfl

end Sys2Proof.Machine
end

section
/-! The whole run of a memory algorithm without a repeated read (R235 to R238, R256): O34. -/

namespace Sys2Proof.Machine
open Sys2Proof

/-! ### What a memory algorithm leaves -/

/-- R231: a memory algorithm leaves everything but `TR`, `PROGRESS`, `SEQ`, the working registers and what the
environment sees. -/
structure Scanned (s t : State) : Prop where
  fixed : t.fixed = s.fixed
  pins : t.pins = s.pins
  res : WritesTr s t

theorem Scanned.refl (s : State) : Scanned s s := ⟨rfl, rfl, rfl⟩

theorem Scanned.trans {s t u : State} (h : Scanned s t) (h' : Scanned t u) : Scanned s u := by
  refine ⟨h'.fixed.trans h.fixed, h'.pins.trans h.pins, ?_⟩
  have hres := h'.res
  rw [WritesTr, h.res] at hres
  exact hres

theorem Scanned.running {s t : State} (h : Scanned s t) (hs : s.Running) : t.Running := by
  have hbusy : t.busy = s.busy := eq_of_fixed h.fixed State.busy
  have hmode : t.mode = s.mode := eq_of_fixed h.fixed State.mode
  exact ⟨hbusy.trans hs.1, hmode ▸ hs.2⟩

theorem Scanned.region {s t : State} (h : Scanned s t) : t.region = s.region := fixed_region h.fixed

theorem memBody_scanned (top : Bool) (pat : Option Byte) (phases : List MemPhase) (s : State) :
    Scanned s (memBody top pat phases s).state :=
  ⟨(memBody_framed s top pat phases).1, memBody_pins top pat phases s, memBody_writesTr s top pat phases⟩

/-- A state that a scan has reached, as the state where the scan began with the parts that a scan writes. -/
theorem Scanned.eq {s t : State} (h : Scanned s t) : t = { s with
    progress := t.progress, res := { s.res with tr := t.res.tr }, seq := t.seq, work := t.work, trace := t.trace
    answers := t.answers, answered := t.answered } := by
  calc t = { t.fixed with
        progress := t.progress, pins := t.pins, res := t.res, seq := t.seq, work := t.work, trace := t.trace
        answers := t.answers, answered := t.answered } := rfl
    _ = { s.fixed with
        progress := t.progress, pins := s.pins, res := { s.res with tr := t.res.tr }, seq := t.seq, work := t.work
        trace := t.trace, answers := t.answers, answered := t.answered } := by
      rw [h.fixed, h.pins, ← h.res]
    _ = _ := rfl

/-! ### Runs that issue a list of events -/

/-- The trace with the values read put out of sight. -/
def State.shapes (s : State) : List Event := s.trace.map Spec.shape

/-- From `s`, steps of command `i` come to `t` and issue `events`, in order, and no other. -/
def Scans (i : Instr) (s : State) (events : List Event) (t : State) : Prop :=
  ∃ n, Spec.execN i n s = .next t ∧ Scanned s t ∧ t.shapes = events.reverse ++ s.shapes

section
variable {i : Instr} {s t u : State} {events events' : List Event}

theorem Scans.refl (i : Instr) (s : State) : Scans i s [] s := ⟨0, rfl, .refl s, rfl⟩

theorem Scans.trans (h : Scans i s events t) (h' : Scans i t events' u) : Scans i s (events ++ events') u := by
  obtain ⟨m, hrun, hscan, htrace⟩ := h
  obtain ⟨n, hrun', hscan', htrace'⟩ := h'
  refine ⟨m + n, (execN_trans hrun n).trans hrun', hscan.trans hscan', ?_⟩
  rw [htrace', htrace, List.reverse_append, List.append_assoc]

theorem Scans.scanned (h : Scans i s events t) : Scanned s t := by
  obtain ⟨_, -, h, -⟩ := h
  exact h

end

/-! ### The operations of a table as events (R238, R256, R286, R311) -/

/-- R233: what an operation issues at cell `k`. -/
def access (r : Region) (k : Nat) : CellOp → Event
  | .w v => .memWrite (r.addr k) (v.at (r.addr k))
  | .r _ | .rd | .rstop _ _ => .memRead (r.addr k) 0#8

/-- R232, R311: what a phase issues, cell after cell. -/
def phaseAccesses (r : Region) : MemPhase → List Event
  | .pass d ops => (Spec.cells d.descends r.length.toNat).flatMap fun k => ops.map (access r k)
  | .wait ms n => List.replicate n (.delayMs ms)

theorem accesses_eq (r : Region) (phases : List MemPhase) :
    Spec.accesses r (phases.map specPhase) = phases.flatMap (phaseAccesses r) := by
  rw [Spec.accesses, List.flatMap_map]
  refine List.flatMap_congr fun p _ => ?_
  cases p with
  | wait ms n => rfl
  | pass d ops =>
    refine List.flatMap_congr fun k _ => ?_
    rw [List.map_map]
    refine List.map_congr_left fun o _ => ?_
    cases o <;> simp [access, specOp, addr_eq_cellAddr]

/-- A phase without a repeated read, whose wait, if it is one, `RDCNT` can count. -/
def MemPhase.Straight : MemPhase → Prop
  | .pass _ ops => ops ≠ [] ∧ ∀ v n, .rstop v n ∉ ops
  | .wait _ n => n < 256

/-- R249: only `READDESTR` has a repeated read. -/
theorem memTable_straight {i : Instr} {pat : Option Byte} {phases : List MemPhase} (hwf : i.wellFormed = true)
    (hi : memTable i = some (pat, phases)) (hne : ∀ p n, i ≠ .readdestr p n) : ∀ p ∈ phases, p.Straight := by
  have hfit := memTable_countsFit hwf hi
  cases i <;> cases hi
  case readdestr p n => exact absurd rfl (hne p n)
  case retention p d n =>
    have hn : n < 256 := hfit (.wait d n) (by simp [retentionTable])
    simp [retentionTable, MemPhase.Straight, hn]
  all_goals simp [repwriteTable_eq, repreadTable_eq, checkerTable, walkTable, walkOrder, marchcTable, marchssTable,
    marchlaTable, movinvTable, addruniqTable, MemPhase.Straight, w0, w1, r0, r1]

/-! ### The cells of a pass in order (R94) -/

/-- From cell `k`, or from the terminal value, a pass over `len` cells visits the cells of a list. -/
inductive Visits (d : PassDir) (len : Nat) : Nat → List Nat → Prop
  | done : Visits d len 65536 []
  | cell {k : Nat} {ks : List Nat} (hk : k < 65536) (h : Visits d len (d.next len k) ks) : Visits d len k (k :: ks)

theorem visits_asc {len : Nat} (hlen : len ≤ 65536) (m k : Nat) (h : k + m + 1 = len) :
    Visits .asc len k (List.range' k (m + 1)) := by
  induction m generalizing k with
  | zero =>
    refine .cell (by omega) ?_
    rw [PassDir.next, if_neg (by omega)]
    exact .done
  | succ m ih =>
    refine .cell (by omega) ?_
    rw [PassDir.next, if_pos (by omega)]
    exact ih (k + 1) (by omega)

theorem visits_desc (len k : Nat) (hk : k < 65536) : Visits .desc len k (List.range (k + 1)).reverse := by
  induction k with
  | zero => exact .cell hk .done
  | succ k ih =>
    rw [List.range_succ, List.reverse_append, List.reverse_singleton]
    exact .cell hk (ih (by omega))

/-- R94: a pass visits the cells of the region, each once, in its direction. -/
theorem visits_cells (d : PassDir) {len : Nat} (hlen : len ≤ 65536) :
    Visits d len (d.first len) (Spec.cells d.descends len) := by
  cases len with
  | zero => cases d <;> exact .done
  | succ m =>
    cases d with
    | asc =>
      have h := visits_asc hlen m 0 (by omega)
      rwa [← List.range_eq_range'] at h
    | desc => exact visits_desc (m + 1) m (by omega)

/-! ### One operation, one cell, one pass -/

/-- R233: an operation that is no repeated read issues its event, then the next operation begins. -/
theorem cellOp_access {o : CellOp} (ho : ∀ v n, o ≠ .rstop v n) (d : PassDir) (ops : List CellOp) (s : State) :
    ∃ u : State, cellOp d ops o s = nextOp d ops u ∧ u.seq = s.seq ∧ u.region = s.region ∧
      u.shapes = access s.region s.seq.posk o :: s.shapes := by
  cases o with
  | w v => exact ⟨cellWrite v s, rfl, by rw [cellWrite_eq]; exact ⟨rfl, rfl, rfl⟩⟩
  | r v => exact ⟨cellRead v s, rfl, by rw [cellRead_eq, cellFetch_eq]; exact ⟨rfl, rfl, rfl⟩⟩
  | rd => exact ⟨cellReadDiscard s, rfl, by rw [cellReadDiscard_eq]; exact ⟨rfl, rfl, rfl⟩⟩
  | rstop v n => exact absurd rfl (ho v n)

theorem memBody_wait {phases : List MemPhase} {s : State} {j ms n : Nat} (hphase : s.seq.phase = j + 1)
    (hp : phases[j]? = some (.wait ms n)) (top : Bool) (pat : Option Byte) : memBody top pat phases s =
      if s.work.rdcnt.toNat < n then .more (waitStep ms s) else endPhase top phases (j + 1) s := by
  unfold memBody
  rw [hphase]
  dsimp only
  rw [hp]

theorem enterPhase_running (phases : List MemPhase) (j : Nat) {s : State} (hs : s.Running) :
    (enterPhase phases j s).Running := by
  rw [enterPhase_eq]
  exact hs

theorem drop_eq_cons {α : Type} {l : List α} {k : Nat} {a : α} {rest : List α} (h : l.drop k = a :: rest) :
    l[k]? = some a ∧ l.drop (k + 1) = rest ∧ l.length = k + 1 + rest.length := by
  have hlen := congrArg List.length h
  rw [List.length_drop, List.length_cons] at hlen
  refine ⟨?_, ?_, by omega⟩
  · rw [← List.head?_drop, h, List.head?_cons]
  · rw [← List.tail_drop, h, List.tail_cons]

section
variable {i : Instr} {pat : Option Byte} {phases : List MemPhase} (hi : memTable i = some (pat, phases))
include hi

/-- A step with which the algorithm goes on. -/
theorem scans_more {s t : State} (hs : s.Running) (h : memBody true pat phases s = .more t) {events : List Event}
    (htrace : t.shapes = events.reverse ++ s.shapes) : Scans i s events t := by
  have hexec : exec i s = .next t := by rw [exec_memTable hi hs, h, finish_more]
  have hscan := memBody_scanned true pat phases s
  rw [h] at hscan
  exact ⟨1, execN_succ hexec 0, hscan, htrace⟩

/-- `s` is at the first operation of cell `c`, or past the last cell, in phase `j + 1`. -/
def AtCell (j c : Nat) (s : State) : Prop := s.seq.phase = j + 1 ∧ s.seq.posk = c ∧ s.seq.op = 0

section
variable {j : Nat} {d : PassDir} {ops : List CellOp} (hp : phases[j]? = some (.pass d ops))
  (hrstop : ∀ v n, .rstop v n ∉ ops)
include hp hrstop

/-- One operation on one cell, then the next operation, or the next cell (R232). -/
theorem scans_op {s : State} (hs : s.Running) (hphase : s.seq.phase = j + 1) (hpos : s.seq.posk < 65536)
    {o : CellOp} (ho : ops[s.seq.op]? = some o) :
    ∃ t, Scans i s [access s.region s.seq.posk o] t ∧
      t.seq = if s.seq.op + 1 < ops.length then { s.seq with op := s.seq.op + 1, sample := 0 }
        else { s.seq with posk := d.next s.region.length.toNat s.seq.posk, op := 0, sample := 0 } := by
  have hplain : ∀ v n, o ≠ .rstop v n := fun v n h => hrstop v n (h ▸ List.mem_of_getElem? ho)
  obtain ⟨u, hu, hseq, hregion, htrace⟩ := cellOp_access hplain d ops s
  have hbody := memBody_pass hphase true pat hp hpos
  rw [passStep_op ho, hu, nextOp_eq, hseq, hregion] at hbody
  exact ⟨_, scans_more hi hs hbody htrace, rfl⟩

/-- The operations that are left to do on a cell, one after another. -/
theorem scans_ops {s : State} (hs : s.Running) (hphase : s.seq.phase = j + 1) (hpos : s.seq.posk < 65536)
    {o : CellOp} {rest : List CellOp} (hleft : ops.drop s.seq.op = o :: rest) :
    ∃ t, Scans i s ((o :: rest).map (access s.region s.seq.posk)) t ∧
      AtCell j (d.next s.region.length.toNat s.seq.posk) t := by
  induction rest generalizing s o with
  | nil =>
    obtain ⟨ho, -, hlen⟩ := drop_eq_cons hleft
    obtain ⟨t, hstep, hseq⟩ := scans_op hi hp hrstop hs hphase hpos ho
    rw [if_neg (by simp [hlen])] at hseq
    refine ⟨t, hstep, ?_⟩
    rw [AtCell, hseq]
    exact ⟨hphase, rfl, rfl⟩
  | cons o' rest ih =>
    obtain ⟨ho, hrest, hlen⟩ := drop_eq_cons hleft
    obtain ⟨t, hstep, hseq⟩ := scans_op hi hp hrstop hs hphase hpos ho
    rw [if_pos (by simp [hlen])] at hseq
    obtain ⟨u, hrun, hat⟩ := ih (s := t) (o := o') (hstep.scanned.running hs) (by rw [hseq]; exact hphase)
      (by rw [hseq]; exact hpos) (by rw [hseq]; exact hrest)
    rw [hstep.scanned.region, hseq] at hrun hat
    exact ⟨u, hstep.trans hrun, hat⟩

/-- The operations of every cell, cell after cell. -/
theorem scans_cells {len c : Nat} {ks : List Nat} (hks : Visits d len c ks) (hops : ops ≠ []) {s : State}
    (hs : s.Running) (hlen : s.region.length.toNat = len) (hat : AtCell j c s) :
    ∃ t, Scans i s (ks.flatMap fun k => ops.map (access s.region k)) t ∧ AtCell j 65536 t := by
  induction hks generalizing s with
  | done => exact ⟨s, .refl i s, hat⟩
  | @cell k ks hk _ ih =>
    obtain ⟨hphase, rfl, hop⟩ := hat
    obtain ⟨o, rest, rfl⟩ := List.exists_cons_of_ne_nil hops
    obtain ⟨t, hcell, hnext⟩ := scans_ops hi hp hrstop hs hphase hk (o := o) (rest := rest) (by rw [hop]; rfl)
    have hregion := hcell.scanned.region
    rw [hlen] at hnext
    obtain ⟨u, hcells, hend⟩ := ih (hcell.scanned.running hs) (by rw [hregion, hlen]) hnext
    rw [hregion] at hcells
    exact ⟨u, hcell.trans hcells, hend⟩

end

/-! ### The wait, the phases, the whole run -/

/-- R312: the delays that are left, counted in `RDCNT`. -/
theorem scans_wait {j ms n : Nat} (hp : phases[j]? = some (.wait ms n)) (hn : n < 256) (m : Nat) {s : State}
    (hs : s.Running) (hphase : s.seq.phase = j + 1) (hcount : s.work.rdcnt.toNat + m = n) :
    ∃ t, Scans i s (List.replicate m (.delayMs ms)) t ∧ memBody true pat phases t = endPhase true phases (j + 1) t := by
  induction m generalizing s with
  | zero =>
    refine ⟨s, .refl i s, ?_⟩
    rw [memBody_wait hphase hp, if_neg (by omega)]
  | succ m ih =>
    have hbody := memBody_wait hphase hp true pat
    rw [if_pos (by omega)] at hbody
    have hstep := scans_more hi hs hbody (events := [.delayMs ms]) rfl
    have hcount' : (waitStep ms s).work.rdcnt.toNat + m = n := by
      change (s.work.rdcnt + 1#8).toNat + m = n
      rw [BitVec.toNat_add_of_lt (by simp; omega)]
      simp; omega
    obtain ⟨t, hrun, hend⟩ := ih (hstep.scanned.running hs) hphase hcount'
    exact ⟨t, hstep.trans hrun, hend⟩

/-- A phase, from where it is entered to its end. -/
theorem scans_phase {j : Nat} {p : MemPhase} (hp : phases[j]? = some p) (hstraight : p.Straight) {s : State}
    (hs : s.Running) (hlen : s.region.length.toNat ≤ 65536) :
    ∃ t, Scans i (enterPhase phases j s) (phaseAccesses s.region p) t ∧
      memBody true pat phases t = endPhase true phases (j + 1) t := by
  have hrunning := enterPhase_running phases j hs
  have hphase : (enterPhase phases j s).seq.phase = j + 1 := by simp
  have hregion : (enterPhase phases j s).region = s.region := fixed_region (by simp)
  cases p with
  | wait ms n =>
    refine scans_wait hi hp hstraight n hrunning hphase ?_
    rw [enterPhase_eq, hp]
    exact Nat.zero_add n
  | pass d ops =>
    obtain ⟨hops, hrstop⟩ := hstraight
    have hat : AtCell j (d.first s.region.length.toNat) (enterPhase phases j s) := by
      rw [enterPhase_eq, hp]
      exact ⟨rfl, rfl, rfl⟩
    obtain ⟨t, hrun, hphase, hpos, -⟩ :=
      scans_cells hi hp hrstop (visits_cells d hlen) hops hrunning (by rw [hregion]) hat
    rw [hregion] at hrun
    exact ⟨t, hrun, memBody_passEnd hphase true pat hp hpos⟩

/-- R237: the phases that are left, one after another, to the end of the algorithm. -/
theorem scans_phases (hstraight : ∀ p ∈ phases, p.Straight) {j : Nat} {p : MemPhase} {rest : List MemPhase}
    (hleft : phases.drop j = p :: rest) {s : State} (hs : s.Running) (hlen : s.region.length.toNat ≤ 65536) :
    ∃ t, Scans i (enterPhase phases j s) ((p :: rest).flatMap (phaseAccesses s.region)) t ∧
      memBody true pat phases t = .ended (phaseEnd true phases.length phases.length t) := by
  induction rest generalizing s j p with
  | nil =>
    obtain ⟨hp, -, hcount⟩ := drop_eq_cons hleft
    obtain ⟨t, hrun, hend⟩ := scans_phase hi hp (hstraight p (List.mem_of_getElem? hp)) hs hlen
    have hlast : j + 1 = phases.length := hcount.symm
    rw [endPhase, hlast, if_neg (lt_irrefl _)] at hend
    exact ⟨t, by simpa using hrun, hend⟩
  | cons p' rest ih =>
    obtain ⟨hp, hrest, hcount⟩ := drop_eq_cons hleft
    obtain ⟨t, hrun, hend⟩ := scans_phase hi hp (hstraight p (List.mem_of_getElem? hp)) hs hlen
    rw [endPhase, if_pos (by simp [hcount])] at hend
    have hscan := hrun.scanned
    have hrunning := hscan.running (enterPhase_running phases j hs)
    have hstep := scans_more hi hrunning hend (events := []) (by rw [enterPhase_eq]; rfl)
    have hregion : (phaseEnd true (j + 1) phases.length t).region = s.region := by
      rw [← fixed_region (enterPhase_frame s phases j).1, ← hscan.region]
      rfl
    obtain ⟨u, hrun', hend'⟩ := ih hrest (s := phaseEnd true (j + 1) phases.length t) hrunning
      (by rw [hregion]; exact hlen)
    rw [hregion] at hrun'
    exact ⟨u, hrun.trans (hstep.trans hrun'), hend'⟩

/-- R127, R128: an idle engine that owns the bus accepts a memory algorithm on every legal region. -/
theorem exec_memTable_accepted {s : State} (hs : s.Idle) (hmode : s.mode = .owned)
    (hlen : s.region.length.toNat ≤ 65536) : exec i s = .next (accept (encode i) s) := by
  have hallows : modeAllows i s.mode = true := by
    rw [hmode]
    cases i <;> cases hi <;> rfl
  have hconfig : configLegal i s.cfg = true := by cases i <;> cases hi <;> rfl
  have hlegal : s.region.legal = true := decide_eq_true hlen
  rw [exec_idle hs.1 hs.2, present, hallows, hconfig, hlegal]
  simp

end

/-- Settles O34: acceptance, the prologue, the phases of the table one after another, the completion. -/
theorem memoryRunAccesses : Obligations.MemoryRunAccesses := by
  unfold Obligations.MemoryRunAccesses
  intro i s hb hmode hwf hphases hne hlen
  obtain ⟨⟨pat, phases⟩, hi⟩ := memTable_of_phases hphases
  have htable := phases_of_memTable hi
  obtain ⟨p, rest, rfl⟩ : ∃ p rest, phases = p :: rest :=
    List.exists_cons_of_ne_nil fun h => hphases (by rw [htable, h]; rfl)
  have hrunning : (accept (encode i) s).Running := ⟨rfl, by simp [hmode]⟩
  have haccept := exec_memTable_accepted hi ⟨hb, by simp [hmode]⟩ hmode hlen
  have hprologue := scans_more hi hrunning (memBody_prologue rfl true pat _) (events := [])
    (by rw [enterPhase_eq]; rfl)
  obtain ⟨t, hphasesRun, hend⟩ := scans_phases hi (memTable_straight hwf hi hne) (j := 0) rfl
    (s := clearTr (loadPattern pat (accept (encode i) s))) hrunning hlen
  obtain ⟨n, hrun, hscan, htrace⟩ := hprologue.trans hphasesRun
  have hlast := exec_memTable hi (hscan.running hrunning)
  have hscanLast := memBody_scanned true pat (p :: rest) t
  rw [hend] at hlast hscanLast
  have hall := (execN_succ haccept (n + 1)).trans ((execN_trans hrun 1).trans (execN_succ hlast 0))
  refine ⟨n + 1 + 1, _, hall, ?frame, ?trace⟩
  case frame => exact (congrArg complete (hscan.trans hscanLast).eq :)
  case trace =>
    rw [htable, accesses_eq]
    exact htrace

end Sys2Proof.Machine
end

section
/-! Against a memory that stores what is written, a memory algorithm counts no error (R274, R236): O35.

What has been done on a cell is a list of operations, read off the table and `SEQ`. The invariant: `TR` is zero, and the
trace's latest write to each cell of the region is the last write of the cell's list. Every compared read of a table
expects the byte of that write. -/

namespace Sys2Proof.Machine
open Sys2Proof

/-! ### What the operations of a table leave in a cell and expect of it (R233) -/

/-- The value function a cell holds after an operation, from the one it held. -/
def CellOp.leaves (held : Option CellVal) : CellOp → Option CellVal
  | .w v => some v
  | .r _ | .rd | .rstop _ _ => held

/-- The value function an operation compares with. -/
def CellOp.compared : CellOp → Option CellVal
  | .r v | .rstop v _ => some v
  | .w _ | .rd => none

/-- The value function a cell holds after a list of operations: that of the last write. -/
def held (ops : List CellOp) : Option CellVal := ops.foldl CellOp.leaves none

/-- Each compared read of the list expects what the cell holds there. -/
def ReadsBack (before : Option CellVal) : List CellOp → Prop
  | [] => True
  | o :: ops => (∀ v ∈ o.compared, before = some v) ∧ ReadsBack (o.leaves before) ops

theorem held_append_singleton (ops : List CellOp) (o : CellOp) : held (ops ++ [o]) = o.leaves (held ops) :=
  List.foldl_concat ..

theorem ReadsBack.right_of_append {before : Option CellVal} {ops ops' : List CellOp}
    (h : ReadsBack before (ops ++ ops')) : ReadsBack (ops.foldl CellOp.leaves before) ops' := by
  induction ops generalizing before with
  | nil => exact h
  | cons o ops ih => exact ih h.2

/-- R240 to R253, R272, R273, R283 to R285, R302, R312: what the passes do on a cell, in order, reads back what it
wrote. -/
theorem memTable_readsBack {i : Instr} {pat : Option Byte} {phases : List MemPhase}
    (hi : memTable i = some (pat, phases)) : ReadsBack none (phases.flatMap MemPhase.ops) := by
  cases i <;> cases hi
  all_goals simp [repwriteTable_eq, repreadTable_eq, checkerTable, walkTable, walkOrder, marchcTable, marchssTable,
    marchlaTable, movinvTable, retentionTable, readdestrTable, addruniqTable, w0, w1, r0, r1, MemPhase.ops, ReadsBack,
    CellOp.compared, CellOp.leaves]

/-! ### Which cells a pass is done with (R94) -/

/-- With `POSK` at `k`, a pass is done with cell `l`. -/
def PassDir.past (d : PassDir) (k l : Nat) : Bool :=
  match d with
  | .asc => decide (l < k)
  | .desc => decide (k < l ∨ k = 65536)

section
variable {d : PassDir} {len k l : Nat} (hlen : len ≤ 65536)
include hlen

theorem past_self (hk : k < len) : d.past k k = false := by
  cases d <;> simp [PassDir.past]
  omega

variable (hl : l < len)
include hl

theorem past_first : d.past (d.first len) l = false := by
  cases d <;> simp [PassDir.past, PassDir.first] <;> split <;> omega

theorem past_end : d.past 65536 l = true := by
  cases d <;> simp [PassDir.past]
  omega

theorem past_next (hk : k < len) : d.past (d.next len k) l = true ↔ d.past k l = true ∨ l = k := by
  cases d <;> dsimp only [PassDir.next, Config.passEnd] <;> split <;> simp [PassDir.past] <;> omega

end

/-! ### What has been done on a cell (R232) -/

/-- With `SEQ` at `q`, the operations of a phase that have been done on cell `l`. -/
def MemPhase.doneOn (q : Seq) (l : Nat) : MemPhase → List CellOp
  | .pass d ops => if d.past q.posk l then ops else if l = q.posk then ops.take q.op else []
  | .wait _ _ => []

/-- With `SEQ` at `q`, the operations an algorithm has done on cell `l`. -/
def opsDone (phases : List MemPhase) (q : Seq) (l : Nat) : List CellOp :=
  (phases.take (q.phase - 1)).flatMap MemPhase.ops ++ (phases[q.phase - 1]?).elim [] (·.doneOn q l)

section
variable {phases : List MemPhase} {j l : Nat}

theorem opsDone_eq {q : Seq} {p : MemPhase} (hphase : q.phase = j + 1) (hp : phases[j]? = some p) :
    opsDone phases q l = (phases.take j).flatMap MemPhase.ops ++ p.doneOn q l := by
  rw [opsDone, hphase, Nat.add_sub_cancel, hp, Option.elim_some]

/-- At the end of a phase all its operations have been done. -/
theorem opsDone_phaseEnd {q : Seq} {p : MemPhase} (hphase : q.phase = j + 1) (hp : phases[j]? = some p)
    (hdone : p.doneOn q l = p.ops) : opsDone phases q l = (phases.take (j + 1)).flatMap MemPhase.ops := by
  rw [opsDone_eq hphase hp, hdone, List.take_add_one, hp]
  simp

variable {s : State} (hlen : s.region.length.toNat ≤ 65536) (hl : l < s.region.length.toNat)
include hlen hl

/-- Where a phase is entered, no operation of it has been done. -/
theorem opsDone_enterPhase (j : Nat) :
    opsDone phases (enterPhase phases j s).seq l = (phases.take j).flatMap MemPhase.ops := by
  rw [enterPhase_eq, opsDone, Nat.add_sub_cancel]
  cases hp : phases[j]? with
  | none => simp
  | some p =>
    cases p with
    | wait ms n => simp [MemPhase.doneOn]
    | pass d ops => simp [MemPhase.doneOn, past_first hlen hl]

/-- Where the next operation begins, one more has been done on the cell at `POSK`, and none more on another. -/
theorem opsDone_nextOp {d : PassDir} {ops : List CellOp} (hphase : s.seq.phase = j + 1)
    (hp : phases[j]? = some (.pass d ops)) (hk : s.seq.posk < s.region.length.toNat) :
    opsDone phases (nextOp d ops s).seq l =
      opsDone phases s.seq l ++ if l = s.seq.posk then (ops[s.seq.op]?).toList else [] := by
  have hself := past_self (d := d) hlen hk
  have hphase' : (nextOp d ops s).seq.phase = j + 1 := by simp [hphase]
  rw [opsDone_eq hphase hp, opsDone_eq hphase' hp, List.append_assoc, nextOp_eq]
  congr 1
  by_cases hmore : s.seq.op + 1 < ops.length
  case pos =>
    rw [if_pos hmore]
    by_cases heq : l = s.seq.posk <;> simp [MemPhase.doneOn, heq, hself, List.take_add_one]
  case neg =>
    have hall : ops.take s.seq.op ++ (ops[s.seq.op]?).toList = ops := by
      rw [← List.take_add_one, List.take_of_length_le (Nat.not_lt.mp hmore)]
    rw [if_neg hmore]
    by_cases heq : l = s.seq.posk
    · simp [MemPhase.doneOn, heq, hself, hall, past_next hlen hk hk]
    · simp [MemPhase.doneOn, heq, past_next hlen hl hk]

end

/-! ### The faithful memory (R274) -/

/-- If `held` is a value function, the latest write to cell `l` is its byte. -/
def Holds (s : State) (l : Nat) (held : Option CellVal) : Prop :=
  ∀ v ∈ held, lastWritten (s.region.addr l) s.trace = some (v.at (s.region.addr l))

/-- R274: a read is answered by the byte of the latest write. -/
theorem byteRead_faithful {s : State} {other x : Byte} (hanswer : s.answer = faithfulAnswer other s)
    (h : lastWritten (s.region.addr s.seq.posk) s.trace = some x) : Spec.byteRead s = x := by
  rw [Spec.byteRead, hanswer, faithfulAnswer, h, Option.getD_some, byte_of_rdv]

/-- `u` is `s` after operation `o` on its cell: the cell holds what `o` leaves there, every other cell what it held,
and no error has been counted. -/
structure Acted (o : CellOp) (s u : State) : Prop where
  seq : u.seq = s.seq
  region : u.region = s.region
  tr : u.res.tr = s.res.tr
  holds : ∀ l < 65536, ∀ c, Holds s l c → Holds u l (if l = s.seq.posk then o.leaves c else c)

/-- An operation that writes nothing leaves what every cell holds. -/
theorem acted_of_no_write {o : CellOp} {s u : State} (ho : ∀ c, o.leaves c = c) (hseq : u.seq = s.seq)
    (hregion : u.region = s.region) (htr : u.res.tr = s.res.tr)
    (htrace : ∀ a, lastWritten a u.trace = lastWritten a s.trace) : Acted o s u := by
  refine ⟨hseq, hregion, htr, fun l _ c hc => ?_⟩
  rw [ho, ite_self, Holds, hregion, htrace]
  exact hc

theorem cellWrite_acted (v : CellVal) {s : State} (hk : s.seq.posk < 65536) : Acted (.w v) s (cellWrite v s) := by
  rw [cellWrite_eq]
  refine ⟨rfl, rfl, rfl, fun l hl c hc w hw => ?_⟩
  by_cases heq : l = s.seq.posk
  · obtain rfl : v = w := by simpa [heq, CellOp.leaves] using hw
    simp [lastWritten, heq]
  · have haddr : s.region.addr s.seq.posk ≠ s.region.addr l := fun h => heq (addr_injOn _ hk hl h).symm
    rw [if_neg heq] at hw
    simpa [lastWritten, haddr] using hc w hw

theorem cellReadDiscard_acted (s : State) : Acted .rd s (cellReadDiscard s) := by
  rw [cellReadDiscard_eq]
  exact acted_of_no_write (fun _ => rfl) rfl rfl rfl fun _ => rfl

section
variable {s : State} {other : Byte} (hanswer : s.answer = faithfulAnswer other s)
include hanswer

/-- R236: a compared read that expects what the cell holds counts no error. -/
theorem cellRead_acted {v : CellVal} (h : Holds s s.seq.posk (some v)) : Acted (.r v) s (cellRead v s) := by
  rw [cellRead_eq, cellFetch_eq, byteRead_faithful hanswer (h v rfl)]
  exact acted_of_no_write (fun _ => rfl) rfl rfl (accumulate_match ..) fun _ => rfl

/-- R250: a turn of the repeated read that expects what the cell holds ends the reads of the cell, or goes on to the
next one. -/
theorem rstopTurn_acted {v : CellVal} {n : Nat} {pat : Option Byte} {bitix : Option (BitVec 4)}
    (htakes : (CellOp.rstop v n).Takes pat bitix) (h : Holds s s.seq.posk (some v)) (d : PassDir)
    (ops : List CellOp) : ∃ u, Acted (.rstop v n) s u ∧
      (rstopTurn d ops v n s = nextOp d ops u ∨ rstopTurn d ops v n s = readAgain u) := by
  have hturn := rstopTurn_cases d ops v n s
  rw [mismatch_rstopRead htakes, byteRead_faithful hanswer (h v rfl)] at hturn
  obtain ⟨-, hdone⟩ | ⟨-, hne, -⟩ | ⟨-, -, hagain⟩ := hturn
  · refine ⟨_, ?_, .inl hdone⟩
    rw [rstopBegin_eq]
    exact acted_of_no_write (fun _ => rfl) rfl rfl rfl fun _ => rfl
  · simp at hne
  · refine ⟨_, ?_, .inr hagain⟩
    rw [rstopRead_eq htakes]
    exact acted_of_no_write (fun _ => rfl) rfl rfl rfl fun _ => rfl

end

/-! ### The invariant -/

/-- R274: no error is counted, and every cell of the region holds what was last written to it. -/
structure Faithful (phases : List MemPhase) (s : State) : Prop where
  clean : s.res.tr = .zero
  holds : ∀ l < s.region.length.toNat, Holds s l (held (opsDone phases s.seq l))

/-- The invariant reads the region, the trace, `TR` and what has been done on each cell. -/
theorem Faithful.of_eq {phases : List MemPhase} {s t : State} (h : Faithful phases s) (hregion : t.region = s.region)
    (htrace : t.trace = s.trace) (htr : t.res.tr = s.res.tr)
    (hdone : ∀ l < s.region.length.toNat, opsDone phases t.seq l = opsDone phases s.seq l) : Faithful phases t := by
  refine ⟨htr.trans h.clean, fun l hl => ?_⟩
  rw [hregion] at hl
  rw [hdone l hl, Holds, hregion, htrace]
  exact h.holds l hl

section
variable {phases : List MemPhase} {pat : Option Byte} {s : State} {j : Nat}
  (hlen : s.region.length.toNat ≤ 65536)
include hlen

/-- R235: the prologue clears `TR`, and nothing has been done on any cell. -/
theorem faithful_prologue : Faithful phases (enterPhase phases 0 (clearTr (loadPattern pat s))) := by
  refine ⟨?_, fun l hl v hv => ?_⟩
  · rw [enterPhase_eq]
    rfl
  · rw [fixed_region (enterPhase_frame ..).1] at hl
    rw [opsDone_enterPhase (s := clearTr (loadPattern pat s)) hlen hl] at hv
    cases hv

/-- A phase is entered with what the phases before it have done. -/
theorem faithful_enterPhase (h : Faithful phases s)
    (hdone : ∀ l < s.region.length.toNat, opsDone phases s.seq l = (phases.take j).flatMap MemPhase.ops) :
    Faithful phases (enterPhase phases j s) := by
  refine h.of_eq ?_ ?_ ?_ fun l hl => by rw [opsDone_enterPhase hlen hl, hdone l hl]
  all_goals rw [enterPhase_eq]

variable (hphase : s.seq.phase = j + 1)
include hphase

/-- At the end of a phase the next one is entered, or the algorithm ends where it stands. -/
theorem faithful_endPhase {p : MemPhase} (h : Faithful phases s) (hp : phases[j]? = some p)
    (hend : ∀ l < s.region.length.toNat, p.doneOn s.seq l = p.ops) (top : Bool) :
    Faithful phases (endPhase top phases (j + 1) s).state := by
  obtain ⟨hseq, -⟩ := phaseEnd_place s top (j + 1) phases.length
  obtain ⟨hfixed, -, hres, -, hio⟩ := phaseEnd_frame s top (j + 1) phases.length
  have hregion := fixed_region hfixed
  have hprogress : Faithful phases (phaseEnd top (j + 1) phases.length s) :=
    h.of_eq hregion (congrArg Io.trace hio) (congrArg Results.tr hres) fun _ _ => by rw [hseq]
  unfold endPhase
  split
  · refine faithful_enterPhase (hregion ▸ hlen) hprogress fun l hl => ?_
    rw [hregion] at hl
    rw [hseq]
    exact opsDone_phaseEnd hphase hp (hend l hl)
  · exact hprogress

/-- A pass is at an operation that compares with what its cell holds. -/
theorem holds_compared {d : PassDir} {ops : List CellOp} {o : CellOp} (h : Faithful phases s)
    (hreads : ReadsBack none (phases.flatMap MemPhase.ops)) (hp : phases[j]? = some (.pass d ops))
    (hk : s.seq.posk < s.region.length.toNat) (ho : ops[s.seq.op]? = some o) :
    Holds s s.seq.posk o.compared := by
  have hdone : opsDone phases s.seq s.seq.posk =
      (phases.take j).flatMap MemPhase.ops ++ ops.take s.seq.op := by
    rw [opsDone_eq hphase hp, MemPhase.doneOn, past_self hlen hk]
    simp
  have hsplit : phases.flatMap MemPhase.ops =
      opsDone phases s.seq s.seq.posk ++
        o :: (ops.drop (s.seq.op + 1) ++ (phases.drop (j + 1)).flatMap MemPhase.ops) := by
    obtain ⟨hj, hpj⟩ := List.getElem?_eq_some_iff.mp hp
    obtain ⟨hop, hoj⟩ := List.getElem?_eq_some_iff.mp ho
    calc phases.flatMap MemPhase.ops
        = (phases.take j ++ MemPhase.pass d ops :: phases.drop (j + 1)).flatMap MemPhase.ops := by
          rw [← hpj, List.cons_getElem_drop_succ, List.take_append_drop]
      _ = (phases.take j).flatMap MemPhase.ops ++ (ops.take s.seq.op ++ o :: ops.drop (s.seq.op + 1)) ++
          (phases.drop (j + 1)).flatMap MemPhase.ops := by
          rw [← hoj, List.cons_getElem_drop_succ, List.take_append_drop]
          simp [MemPhase.ops]
      _ = _ := by rw [hdone]; simp
  rw [hsplit] at hreads
  exact fun v hv => h.holds _ hk v (hreads.right_of_append.1 v hv)

end

/-! ### One step of a pass -/

/-- Past the operations of a pass the next cell begins, as after the last of them. -/
theorem nextCell_eq_nextOp (d : PassDir) {ops : List CellOp} {s : State} (h : ops[s.seq.op]? = none) :
    nextCell d s = nextOp d ops s := by
  have := List.getElem?_eq_none_iff.mp h
  rw [nextOp, if_neg (by omega)]

/-- R233: an operation counts no error if the cell holds what it compares with. -/
theorem cellOp_acted {s : State} {o : CellOp} {other : Byte} {pat : Option Byte} {bitix : Option (BitVec 4)}
    (hanswer : s.answer = faithfulAnswer other s) (htakes : o.Takes pat bitix) (hk : s.seq.posk < 65536)
    (h : Holds s s.seq.posk o.compared) (d : PassDir) (ops : List CellOp) :
    ∃ u, Acted o s u ∧
      (cellOp d ops o s = nextOp d ops u ∨ cellOp d ops o s = readAgain u ∧ ∀ c, o.leaves c = c) := by
  cases o with
  | w v => exact ⟨_, cellWrite_acted v hk, .inl rfl⟩
  | r v => exact ⟨_, cellRead_acted hanswer h, .inl rfl⟩
  | rd => exact ⟨_, cellReadDiscard_acted s, .inl rfl⟩
  | rstop v n =>
    obtain ⟨u, hu, hturn⟩ := rstopTurn_acted hanswer htakes h d ops
    exact ⟨u, hu, hturn.imp_right fun hagain => ⟨hagain, fun _ => rfl⟩⟩

/-- The same cell is read again: no operation is done. -/
theorem faithful_readAgain {phases : List MemPhase} {s u : State} {o : CellOp}
    (hlen : s.region.length.toNat ≤ 65536) (h : Faithful phases s) (hleaves : ∀ c, o.leaves c = c)
    (hu : Acted o s u) : Faithful phases (readAgain u) := by
  obtain ⟨hseq, hregion, htr, hholds⟩ := hu
  refine ⟨htr.trans h.clean, fun l hl => ?_⟩
  have hl' : l < s.region.length.toNat := hregion ▸ hl
  have hnow := hholds l (hl'.trans_le hlen) _ (h.holds l hl')
  rw [hleaves, ite_self, ← hseq] at hnow
  exact hnow

section
variable {phases : List MemPhase} {s : State} {j : Nat} {d : PassDir} {ops : List CellOp}
  (hlen : s.region.length.toNat ≤ 65536) (hphase : s.seq.phase = j + 1)
  (hp : phases[j]? = some (.pass d ops)) (hk : s.seq.posk < s.region.length.toNat) (h : Faithful phases s)
include hlen hphase hp hk h

/-- An operation is done, and the next one begins. -/
theorem faithful_nextOp {o : CellOp} (ho : ops[s.seq.op]? = some o) {u : State} (hu : Acted o s u) :
    Faithful phases (nextOp d ops u) := by
  obtain ⟨hseq, hregion, htr, hholds⟩ := hu
  refine ⟨?_, fun l hl => ?_⟩
  · rw [nextOp_eq, htr, h.clean]
  · rw [fixed_region (nextOp_frame u d ops).1, hregion] at hl
    have hdone := opsDone_nextOp (s := u) (l := l) (hregion ▸ hlen) (hregion ▸ hl) (hseq ▸ hphase) hp
      (by rwa [hseq, hregion])
    have hnow := hholds l (hl.trans_le hlen) _ (h.holds l hl)
    rw [hdone, hseq, ho, nextOp_eq]
    change Holds u l _
    by_cases heq : l = s.seq.posk
    · rw [if_pos heq] at hnow ⊢
      rwa [Option.toList_some, held_append_singleton]
    · rw [if_neg heq] at hnow ⊢
      rwa [List.append_nil]

/-- R232: one step of a pass. -/
theorem faithful_passStep {other : Byte} {pat : Option Byte} {bitix : Option (BitVec 4)}
    (hanswer : s.answer = faithfulAnswer other s) (hreads : ReadsBack none (phases.flatMap MemPhase.ops))
    (htakes : ∀ o ∈ ops, o.Takes pat bitix) : Faithful phases (passStep d ops s) := by
  cases ho : ops[s.seq.op]? with
  | none =>
    have hstep : passStep d ops s = nextOp d ops s := by
      rw [passStep, ho]
      exact nextCell_eq_nextOp d ho
    rw [hstep]
    refine h.of_eq ?_ ?_ ?_ fun l hl => ?_
    case refine_4 => simp [opsDone_nextOp hlen hl hphase hp hk, ho]
    all_goals rw [nextOp_eq]
  | some o =>
    rw [passStep_op ho]
    have hholds := holds_compared hlen hphase h hreads hp hk ho
    obtain ⟨u, hu, hnext | ⟨hagain, hleaves⟩⟩ :=
      cellOp_acted hanswer (htakes o (List.mem_of_getElem? ho)) (hk.trans_le hlen) hholds d ops
    · exact hnext ▸ faithful_nextOp hlen hphase hp hk h ho hu
    · exact hagain ▸ faithful_readAgain hlen h hleaves hu

end

/-! ### One step of an algorithm, and the whole run -/

/-- `s` as it meets the faithful memory, the host silent. -/
def State.facing (other : Byte) (s : State) : State := { s with answers := [faithfulAnswer other s], host := [] }

section
variable {i : Instr} {pat : Option Byte} {phases : List MemPhase} (hi : memTable i = some (pat, phases))
include hi

/-- R232 to R237: the prologue establishes the invariant, and every later step against the faithful memory keeps it. -/
theorem faithful_memBody {s : State} {other : Byte} (h : s.seq.phase ≠ 0 → Faithful phases s)
    (hcell : PassOnCell i s) (hlen : s.region.length.toNat ≤ 65536) (hanswer : s.answer = faithfulAnswer other s)
    (top : Bool) : Faithful phases (memBody top pat phases s).state := by
  cases hphase : s.seq.phase with
  | zero =>
    rw [memBody_prologue hphase]
    exact faithful_prologue hlen
  | succ j =>
    have h := h (by omega)
    cases hp : phases[j]? with
    | none =>
      have hend : memBody top pat phases s = .ended s := by simp only [memBody, hphase, hp]
      rwa [hend]
    | some p =>
      cases p with
      | wait ms n =>
        rw [memBody_wait hphase hp]
        split
        · exact ⟨h.clean, h.holds⟩
        · exact faithful_endPhase hlen hphase h hp (fun _ _ => rfl) top
      | pass d ops =>
        obtain hk | hend := hcell ((inPass_iff hi hphase).mpr ⟨d, ops, hp⟩)
        · rw [memBody_pass hphase top pat hp (hk.trans_le hlen)]
          exact faithful_passStep hlen hphase hp hk h hanswer (memTable_readsBack hi) (memTable_takes hi hp)
        · rw [memBody_passEnd hphase top pat hp hend]
          refine faithful_endPhase hlen hphase h hp (fun l hl => ?_) top
          rw [MemPhase.doneOn, hend, past_end hlen hl, if_pos rfl]
          rfl

/-- A step against the faithful memory is a step of the running algorithm. -/
theorem runFaithful_succ {s : State} (hruns : s.Runs i) (other : Byte) (n : Nat) :
    runFaithful other (n + 1) s = runFaithful other n (finish (memBody true pat phases (s.facing other))) := by
  have hstep : step (s.facing other) = .next (finish (memBody true pat phases (s.facing other))) :=
    (engineStep_running (s := s.facing other) hruns.1 hruns.2).trans (exec_memTable hi hruns.1)
  unfold State.facing at hstep ⊢
  simp only [runFaithful, hstep]

/-- From wherever the invariant holds the algorithm ends, by the descent of its rank, with `TR` zero. -/
theorem runFaithful_ends {s : State} (other : Byte) (hruns : s.Runs i) (hlen : s.region.length.toNat ≤ 65536)
    (hcell : PassOnCell i s) (h : s.seq.phase ≠ 0 → Faithful phases s) :
    ∃ n t, runFaithful other n s = .next t ∧ t.busy = false ∧ t.done = true ∧ t.res.tr = .zero := by
  have hfit := memTable_countsFit (wellFormed_of_decode hruns.2) hi
  induction s using (InvImage.wf (memRank phases) wellFounded_lt).induction with
  | _ s ih =>
    have hfaithful := faithful_memBody hi (s := s.facing other) (fun hp => (h hp).of_eq rfl rfl rfl fun _ _ => rfl)
      hcell hlen rfl true
    have hscan := memBody_scanned true pat phases (s.facing other)
    have hrun := runFaithful_succ hi hruns other
    obtain ⟨t, hmore | hended⟩ := memBody_goes_or_ends true pat phases (s.facing other)
    · have hgoesOn := memBody_goesOn hfit true pat (s.facing other)
      have hcell' := memBody_passOnCell hi (s := s.facing other) hcell true hmore
      rw [hmore] at hfaithful hscan hrun hgoesOn
      obtain ⟨-, -, hrank⟩ := hgoesOn
      have hruns' : t.Runs i := ⟨hscan.running hruns.1, (eq_of_fixed hscan.fixed State.lastcmd) ▸ hruns.2⟩
      obtain ⟨n, u, hend⟩ := ih t hrank hruns' (hscan.region ▸ hlen) hcell' fun _ => hfaithful
      exact ⟨n + 1, u, (hrun n).trans hend.1, hend.2⟩
    · rw [hended] at hfaithful hrun
      exact ⟨1, complete t, hrun 0, rfl, rfl, hfaithful.clean⟩

end

/-- Settles O35: the run from the prologue, where nothing has been done on any cell. -/
theorem faithfulMemoryFindsNothing : Obligations.FaithfulMemoryFindsNothing := by
  unfold Obligations.FaithfulMemoryFindsNothing
  intro i s other hruns hphases hseq hlen
  obtain ⟨⟨pat, phases⟩, hi⟩ := memTable_of_phases hphases
  have hphase : s.seq.phase = 0 := by rw [hseq]; rfl
  obtain ⟨n, t, hrun, hbusy, hdone, htr⟩ :=
    runFaithful_ends hi other hruns hlen (passOnCell_of_phase_zero i hphase) fun h => absurd hphase h
  refine ⟨n, t, hrun, hbusy, hdone, ?_, fun b => ?_⟩ <;> rw [htr]
  exacts [rfl, vec8_get _ b]

end Sys2Proof.Machine
end

section
/-! The wait of `RETENTION` (48_retention.md): O32. -/

namespace Sys2Proof.Machine
open Sys2Proof

/-- R311, R312: a turn of the wait issues its delay and counts it. -/
theorem waitStep_eq (ms : Nat) (s : State) :
    waitStep ms s = Spec.issue (.delayMs ms) { s with work := { s.work with rdcnt := s.work.rdcnt + 1#8 } } := by
  rw [waitStep, countRead_eq, delayMs_eq, Spec.issue]

/-- R312: `RETENTION` in its wait counts one more delay, or the second of its three phases ends. -/
theorem exec_retention_wait (p : Byte) (d n : Nat) {s : State} (hs : s.Running) (hphase : s.seq.phase = 2) :
    exec (.retention p d n) s = .next (finish
      (if s.work.rdcnt.toNat < n then .more (waitStep d s) else endPhase true (retentionTable p d n) 2 s)) := by
  have hwait : (retentionTable p d n)[1]? = some (.wait d n) := rfl
  rw [exec_memTable (show memTable (.retention p d n) = some (some p, retentionTable p d n) from rfl) hs,
    memBody_wait hphase hwait]

/-- R237, R312: the end of the wait is 66 hundredths of `RETENTION`, and the verify pass, ascending, is entered. -/
theorem endPhase_retention_wait (p : Byte) (d n : Nat) (s : State) :
    endPhase true (retentionTable p d n) 2 s = .more { s with
      progress := 66#7
      seq := { s.seq with
        phase := 3, op := 0, sample := 0
        posk := if s.region.length.toNat = 0 then 65536 else 0 } } := by
  have hlength : (retentionTable p d n).length = 3 := rfl
  have hverify : (retentionTable p d n)[2]? = some (.pass .asc [.r (.pat p)]) := rfl
  rw [endPhase, hlength, if_pos (by decide), enterPhase_eq, hverify]
  rfl

/-- Settles O32: a turn of the wait while `RDCNT < N`, its end when `RDCNT` has reached `N`. -/
theorem retentionWait : Obligations.RetentionWait := by
  unfold Obligations.RetentionWait
  intro p d n s hs hphase
  rw [exec_retention_wait p d n hs hphase]
  refine ⟨fun hleft => ?_, fun hdone => ?_⟩
  · rw [if_pos hleft, finish_more, waitStep_eq]
  · rw [if_neg (Nat.not_lt.mpr hdone), endPhase_retention_wait, finish_more]

end Sys2Proof.Machine
end

section
/-! The fold of the suite and the faulty-bit mask (R322, R323): O47. -/

namespace Sys2Proof.Machine
open Sys2Proof

/-! ### The fold (R322) -/

/-- A TestResult is its counters. -/
theorem testResult_ext {a r : TestResult} (htotal : a.total = r.total) (hbit : ∀ i, a.bit.get i = r.bit.get i) :
    a = r := by
  obtain ⟨total, bit⟩ := a
  obtain ⟨total', bit'⟩ := r
  obtain rfl : total = total' := htotal
  refine congrArg (TestResult.mk total) (Vector.ext fun i hi => ?_)
  exact hbit ⟨i, hi⟩

@[simp] theorem fold_total (a r : TestResult) : (a.fold r).total = sat32 (a.total.toNat + r.total.toNat) := rfl

@[simp] theorem fold_bit (a r : TestResult) (i : Fin 8) :
    (a.fold r).bit.get i = sat32 ((a.bit.get i).toNat + (r.bit.get i).toNat) := vec8_get _ i

/-- R10: a counter that has saturated on the way saturates at the same sum. -/
theorem sat32_sat32_add (n m : Nat) : sat32 ((sat32 n).toNat + m) = sat32 (n + m) := by
  apply BitVec.eq_of_toNat_eq
  simp only [sat32_toNat]
  omega

theorem fold_comm (a r : TestResult) : a.fold r = r.fold a :=
  testResult_ext (by simp [Nat.add_comm]) fun i => by simp [Nat.add_comm]

theorem fold_assoc (a r q : TestResult) : (a.fold r).fold q = a.fold (r.fold q) := by
  have hsat (x y z : Word32) : sat32 ((sat32 (x.toNat + y.toNat)).toNat + z.toNat) =
      sat32 (x.toNat + (sat32 (y.toNat + z.toNat)).toNat) := by
    rw [sat32_sat32_add, Nat.add_comm x.toNat (sat32 _).toNat, sat32_sat32_add]
    congr 1
    omega
  exact testResult_ext (by simp [hsat]) fun i => by simp [hsat]

theorem folded_fold (a r : TestResult) : Spec.folded a r (a.fold r) := ⟨rfl, vec8_get _⟩

/-! ### The mask (R323) -/

/-- Setting bits one after another: each bit of the list gets its own flag, the others stay. -/
theorem foldl_setBitTo_getLsbD (f : Fin 8 → Bool) (l : List (Fin 8)) (m : BitVec 8) (j : Fin 8) :
    (l.foldl (fun m i => setBitTo m i.val (f i)) m).getLsbD j.val =
      if j ∈ l then f j else m.getLsbD j.val := by
  induction l generalizing m with
  | nil => rfl
  | cons i l ih =>
    rw [List.foldl_cons, ih, setBitTo_getLsbD m j.val (f i) i.isLt]
    by_cases hl : j ∈ l
    · simp [hl]
    · by_cases hij : j = i
      · simp [hij]
      · simp [hl, hij, Fin.val_ne_of_ne hij]

theorem faultyMask_getLsbD (a : TestResult) (i : Fin 8) :
    (faultyMask a).getLsbD i.val = (a.bit.get i != 0#32) := by
  rw [faultyMask, foldl_setBitTo_getLsbD, if_pos (List.mem_finRange i)]

theorem flags_faultyMask (a : TestResult) : Spec.flags a (faultyMask a) := fun i => by
  rw [faultyMask_getLsbD, bne_iff_ne]

theorem faultyMask_eq_zero_iff (a : TestResult) : faultyMask a = 0#8 ↔ ∀ i, a.bit.get i = 0#32 := by
  constructor
  · intro h i
    have hbit := faultyMask_getLsbD a i
    rw [h, BitVec.getLsbD_zero] at hbit
    simpa using hbit.symm
  · intro h
    refine BitVec.eq_of_getLsbD_eq fun i hi => ?_
    rw [faultyMask_getLsbD a ⟨i, hi⟩, h]
    simp

/-- Settles O47: the fold and the mask, counter by counter. -/
theorem aggregateRule : Obligations.AggregateRule := by
  unfold Obligations.AggregateRule
  refine ⟨folded_fold, fun a r q => ⟨?_, fold_assoc a r q⟩, fold_comm, flags_faultyMask, fun a ha => ?_⟩
  · rw [fold_assoc, fold_comm r q, ← fold_assoc]
  · rw [faultyMask_eq_zero_iff, ha.total_eq_zero_iff]

end Sys2Proof.Machine
end

section
/-! The housekeeping commands (R337, R338) from acceptance to completion: O14 and O15. -/

namespace Sys2Proof.Machine
open Sys2Proof

/-- R128, R359: the two housekeeping commands are accepted by every idle engine. -/
theorem exec_housekeeping {i : Instr} (hi : i = .nop ∨ i = .clear) {s : State} (hs : s.Idle) :
    exec i s = .next (accept (encode i) s) := by
  have hmode : modeAllows i s.mode = true := by
    obtain rfl | rfl := hi <;>
    · cases hm : s.mode with
      | released | owned => rfl
      | halted => exact absurd hm hs.2
  obtain rfl | rfl := hi <;> exact exec_accepted hs hmode rfl rfl

/-- Settles O14: acceptance, and a body that does nothing. -/
theorem nopRun : Obligations.NopRun := by
  unfold Obligations.NopRun
  intro s hs
  have hend : exec .nop (accept (encode .nop) s) = .next (complete (accept (encode .nop) s)) :=
    exec_running rfl hs.2
  exact ⟨_, _, exec_housekeeping (.inl rfl) hs, hend⟩

/-- R60: the registers from index `n` on read 0, said of the registers themselves. -/
theorem forall_registers_iff (s : State) (n : Nat) :
    (∀ e ∈ Spec.registers s, n ≤ e.1 → e.2.2 = 0#64) ↔ ∀ r : RegId, n ≤ r.index → r.value s = 0#64 := by
  rw [registers_eq, List.forall_mem_map]
  exact ⟨fun h r => h r r.mem_all, fun h r _ => h r⟩

/-- The results of the memory algorithms and of the suite are 0: the registers from 0x30 on. -/
structure Results.Unscanned (r : Results) : Prop where
  tr : r.tr = .zero
  agg : r.agg = .zero
  mask : r.aggFaultyMask = 0#8
  count : r.slogCount = 0#5
  slog : r.slog = Results.emptyLog

theorem Results.Unscanned.value {s : State} (h : s.res.Unscanned) (r : RegId) (hr : 0x30 ≤ r.index) :
    r.value s = 0#64 := by
  have hbit (i : Fin 8) : TestResult.zero.bit.get i = 0#32 := vec8_get _ i
  cases r with
  | trTotal => exact congrArg (·.total.setWidth 64) h.tr
  | trBit i => simp [RegId.value, h.tr, hbit]
  | aggTotal => exact congrArg (·.total.setWidth 64) h.agg
  | aggBit i => simp [RegId.value, h.agg, hbit]
  | aggFaultyMask => exact congrArg (BitVec.setWidth 64) h.mask
  | slogCount => exact congrArg (BitVec.setWidth 64) h.count
  | slogCmd c => simp [RegId.value, h.slog, emptyLog_get, SlogEntry.zero]
  | slogTotal c => simp [RegId.value, h.slog, emptyLog_get, SlogEntry.zero, TestResult.zero]
  | slogBit c i => simp [RegId.value, h.slog, emptyLog_get, SlogEntry.zero, hbit]
  | icRef i => simp only [RegId.index] at hr; omega
  | _ => exact absurd hr (by decide)

/-- R338: with every result 0, the registers from 0x20 on read 0. -/
theorem registers_of_res_zero {t : State} (ht : t.res = .zero) :
    ∀ e ∈ Spec.registers t, 0x20 ≤ e.1 → e.2.2 = 0#64 := by
  rw [forall_registers_iff]
  intro r hr
  obtain hlow | hhigh := Nat.lt_or_ge r.index 0x30
  case inr => exact Results.Unscanned.value (by rw [ht]; exact ⟨rfl, rfl, rfl, rfl, rfl⟩) r hhigh
  case inl =>
    cases r with
    | frdStuckHigh | frdStuckLow | fraStuckHigh | fraStuckLow | frcStuckHigh | frcStuckLow | issues | xtSource
    | xtDest | snap | xtBaseline => simp [RegId.value, ht, Results.zero]
    | icRef | trBit | aggBit | slogCmd | slogTotal | slogBit => simp only [RegId.index] at hr hlow; omega
    | _ => simp [RegId.index] at hr hlow

/-- Settles O15: acceptance, and a body that clears the results. -/
theorem clearRun : Obligations.ClearRun := by
  unfold Obligations.ClearRun
  intro s hs
  have hend : exec .clear (accept (encode .clear) s) = .next (complete (clearResults (accept (encode .clear) s))) :=
    exec_running rfl hs.2
  exact ⟨_, _, exec_housekeeping (.inr rfl) hs, hend, rfl, registers_of_res_zero rfl⟩

end Sys2Proof.Machine
end

section
/-! `PROGRESS` inside a composite (R336): a step of a body that is not the outermost is the step of the command
itself, with `PROGRESS` left as it is. -/

namespace Sys2Proof.Machine
open Sys2Proof

/-- A step of a body with a change made to the state it comes to. -/
def BodyStep.map (f : State → State) : BodyStep → BodyStep
  | .more t => .more (f t)
  | .ended t => .ended (f t)
  | .cancelled t => .cancelled (f t)
  | .fatal t => .fatal (f t)

theorem setProgress_eq_self {t : State} {p : BitVec 7} (h : t.progress = p) : t.setProgress p = t := by
  subst h
  rfl

/-- A step that leaves `PROGRESS` is itself with `PROGRESS` put back. -/
theorem map_setProgress_of_state {r : BodyStep} {p : BitVec 7} (h : r.state.progress = p) :
    r.map (·.setProgress p) = r := by
  cases r <;> exact congrArg _ (setProgress_eq_self h)

variable (s : State)

/-! `PROGRESS` put back after the end of a phase: the steps that follow do not see it. -/

theorem setProgress_phaseEnd (top : Bool) (j n : Nat) (p : BitVec 7) :
    (phaseEnd top j n s).setProgress p = s.setProgress p := by
  cases top <;> rfl

theorem setProgress_gotoPhase (k l : Nat) (p : BitVec 7) :
    (s.gotoPhase k l).setProgress p = (s.setProgress p).gotoPhase k l := rfl

theorem setProgress_enterLine (line width pos : Nat) (p : BitVec 7) :
    (enterLine line width pos s).setProgress p = enterLine line width pos (s.setProgress p) := by
  unfold enterLine
  exact apply_ite (fun u : State => u.setProgress p) ..

/-- The end of a phase, `PROGRESS` put back: the next phase alone. -/
theorem phaseEnd_inside (j n k l : Nat) {p : BitVec 7} (h : s.progress = p) :
    (phaseEnd false j n s).gotoPhase k l = ((phaseEnd true j n s).gotoPhase k l).setProgress p := by
  rw [setProgress_gotoPhase, setProgress_phaseEnd, setProgress_eq_self h]
  rfl

theorem verifyDriveLow_inside (b : Bus) :
    verifyDriveLow b false s = (verifyDriveLow b true s).setProgress s.progress := by
  unfold verifyDriveLow
  split
  case h_4 =>
    dsimp only
    rw [setProgress_enterLine, ← phaseEnd_inside _ 1 4 2 b.base (by simp)]
  all_goals exact (setProgress_eq_self (by simp)).symm

theorem verifyConfirm_inside (b : Bus) :
    verifyConfirm b false s = (verifyConfirm b true s).setProgress s.progress := by
  unfold verifyConfirm
  split
  · split
    · exact phaseEnd_inside s 2 4 3 b.base rfl
    · refine (setProgress_eq_self ?_).symm
      unfold verifyDecide verifyNextLine
      split_ifs <;> simp
  · exact (setProgress_eq_self (by simp)).symm

theorem verifyDriveHigh_inside (b : Bus) :
    verifyDriveHigh b false s = (verifyDriveHigh b true s).setProgress s.progress := by
  unfold verifyDriveHigh
  split
  case h_3 => exact phaseEnd_inside _ 3 4 4 b.base (by simp)
  all_goals exact (setProgress_eq_self (by simp)).symm

theorem verifyBusBody_inside (b : Bus) :
    verifyBusBody b false s = (verifyBusBody b true s).map (·.setProgress s.progress) := by
  unfold verifyBusBody
  split
  · exact (map_setProgress_of_state (by simp)).symm
  · exact congrArg _ (verifyDriveLow_inside s b)
  · exact congrArg _ (verifyConfirm_inside s b)
  · exact congrArg _ (verifyDriveHigh_inside s b)
  · refine (map_setProgress_of_state ?_).symm
    unfold verifyCleanup
    split <;> simp

theorem ctrlDriveLow_inside : ctrlDriveLow false s = (ctrlDriveLow true s).setProgress s.progress := by
  unfold ctrlDriveLow
  split
  case h_4 =>
    dsimp only
    split
    · exact (setProgress_eq_self (by simp)).symm
    · rw [setProgress_enterLine, ← phaseEnd_inside _ 1 4 2 24 (by simp)]
  all_goals exact (setProgress_eq_self (by simp)).symm

theorem ctrlConfirm_inside : ctrlConfirm false s = (ctrlConfirm true s).setProgress s.progress := by
  unfold ctrlConfirm
  split
  · split
    · exact phaseEnd_inside s 2 4 3 24 rfl
    · refine (setProgress_eq_self ?_).symm
      unfold ctrlDecide ctrlNextLine
      split_ifs <;> simp
  · exact (setProgress_eq_self (by simp)).symm

theorem ctrlDriveHigh_inside : ctrlDriveHigh false s = (ctrlDriveHigh true s).setProgress s.progress := by
  unfold ctrlDriveHigh
  split
  case h_3 | h_7 => dsimp only; split <;> exact (setProgress_eq_self (by simp)).symm
  case h_8 =>
    dsimp only
    split
    · exact (setProgress_eq_self (by simp)).symm
    · exact phaseEnd_inside _ 3 4 4 24 (by simp)
  all_goals exact (setProgress_eq_self (by simp)).symm

theorem verifyCtrlBody_inside :
    verifyCtrlBody false s = (verifyCtrlBody true s).map (·.setProgress s.progress) := by
  unfold verifyCtrlBody
  split
  · rfl
  · exact congrArg _ (ctrlDriveLow_inside s)
  · exact congrArg _ (ctrlConfirm_inside s)
  · exact congrArg _ (ctrlDriveHigh_inside s)
  · refine (map_setProgress_of_state ?_).symm
    unfold ctrlCleanup
    split <;> simp

theorem xtNext_inside : xtNext false s = (xtNext true s).map (·.setProgress s.progress) := by
  unfold xtNext
  split <;> rfl

theorem xtPosition_inside : xtPosition false s = (xtPosition true s).map (·.setProgress s.progress) := by
  have hsame (c : Prop) [Decidable c] (r r' q : BodyStep) (hr : r.state.progress = s.progress)
      (hq : q = r'.map (·.setProgress s.progress)) :
      (if c then r else q) = (if c then r else r').map (·.setProgress s.progress) := by
    split
    · exact (map_setProgress_of_state hr).symm
    · exact hq
  unfold xtPosition
  refine hsame _ _ _ _ (by split <;> simp) <| hsame _ _ _ _ (by simp) <| hsame _ _ _ _ (by simp) <|
    hsame _ _ _ _ (by simp) <| hsame _ _ _ _ ?trigger <| hsame _ _ _ _ ?loop <| hsame _ _ _ _ (by simp) <|
    hsame _ _ _ _ (by simp [xtSample]) <| hsame _ _ _ _ (by simp) <| hsame _ _ _ _ (by simp) (xtNext_inside s)
  case trigger => unfold xtTrigger; dsimp only [more_state]; split <;> simp
  case loop => unfold xtDecide; dsimp only [more_state]; split_ifs <;> simp

theorem crosstalkBody_inside :
    crosstalkBody false s = (crosstalkBody true s).map (·.setProgress s.progress) := by
  unfold crosstalkBody
  split
  · refine (map_setProgress_of_state ?_).symm
    unfold xtPrologue enterPosition
    split_ifs <;> simp
  · exact xtPosition_inside s

theorem endPhase_inside (phases : List MemPhase) (j : Nat) :
    endPhase false phases j s = (endPhase true phases j s).map (·.setProgress s.progress) := by
  unfold endPhase
  split
  · rw [enterPhase_eq, enterPhase_eq]; rfl
  · rfl

theorem memBody_inside (pat : Option Byte) (phases : List MemPhase) :
    memBody false pat phases s = (memBody true pat phases s).map (·.setProgress s.progress) := by
  unfold memBody
  split
  · exact (map_setProgress_of_state (by simp)).symm
  split
  · rfl
  · split
    · exact (map_setProgress_of_state (r := .more _) (passStep_progress _ _ s).1).symm
    · exact endPhase_inside ..
  · split
    · rfl
    · exact endPhase_inside ..

theorem endCall_eq (top : Bool) (t : State) : endCall top t =
    if t.seq.call + 1 < Config.suiteCalls then
      .more ((phaseEnd top (t.seq.call + 1) Config.suiteCalls (callRecorded t)).setSeq
        { t.seq with call := t.seq.call + 1, phase := 0, op := 1 })
    else .ended (writeFaultyMask (phaseEnd top 1 1 (callRecorded t))) := rfl

theorem endCall_inside {t : State} (ht : t.progress = s.progress) :
    endCall false t = (endCall true t).map (·.setProgress s.progress) := by
  have hrecorded : (callRecorded t).progress = s.progress := by simpa using ht
  rw [endCall_eq, endCall_eq, ← hrecorded]
  generalize callRecorded t = u
  split <;> rfl

theorem suiteBody_inside : suiteBody false s = (suiteBody true s).map (·.setProgress s.progress) := by
  have hcall := memAlgorithmBody_progress (suiteCall s.cfg s.seq.call) s
  unfold suiteBody callStep
  split
  · rfl
  split
  · rfl
  · generalize memAlgorithmBody _ s = r at hcall
    cases r with
    | ended t => exact endCall_inside s hcall
    | more t | cancelled t | fatal t => exact congrArg _ (setProgress_eq_self hcall).symm

/-- R336: inside a composite a command takes the step it takes on its own, and leaves `PROGRESS`. -/
theorem bodyIn_inside {i : Instr} (hi : i ≠ .fullpass) :
    bodyIn false i s = (bodyIn true i s).map (·.setProgress s.progress) := by
  cases hrow : memTable i with
  | some row => rw [bodyIn_of_memTable hrow, bodyIn_of_memTable hrow]; exact memBody_inside ..
  | none =>
    cases i with
    | nop | clear => rfl
    | activate =>
      have hkept := (activateBody_progress s).state (fun _ h => h) (fun _ h => h) fun _ h => h.1
      exact (map_setProgress_of_state hkept).symm
    | deactivate =>
      have hkept := (deactivateBody_progress s).state (fun _ h => h) (fun _ h => h) fun _ h => h.1
      exact (map_setProgress_of_state hkept).symm
    | sample =>
      exact (map_setProgress_of_state ((sampleBody_progress s).state (fun _ h => h) (fun _ h => h) fun _ h => h.1)).symm
    | verifyData => exact verifyBusBody_inside s .data
    | verifyAddr => exact verifyBusBody_inside s .address
    | verifyCtrl => exact verifyCtrlBody_inside s
    | crosstalk => exact crosstalkBody_inside s
    | suite => exact suiteBody_inside s
    | fullpass => exact absurd rfl hi
    | _ => cases hrow

end Sys2Proof.Machine
end

section
/-! The steps of `SUITE` (R322 to R327, R335, R336): O36. -/

namespace Sys2Proof.Machine
open Sys2Proof

/-- Inside a composite the end of the last phase writes nothing (R336). -/
theorem memBody_inside_ended {pat : Option Byte} {phases : List MemPhase} {s t : State}
    (h : memBody false pat phases s = .ended t) : t = s := by
  obtain ⟨_, h'⟩ | ⟨_, _, _, h'⟩ | ⟨_, _, _, _, _, _, h'⟩ | ⟨_, _, _, _, _, _, h'⟩ | ⟨j, _, _, _, h'⟩ :=
    memBody_cases false pat phases s <;> rw [h'] at h
  · cases h
  · cases h; rfl
  · cases h
  · cases h
  · unfold endPhase at h
    split at h <;> cases h
    rfl

theorem memAlgorithmBody_ended_eq {i : Instr} {s t : State} (h : memAlgorithmBody i s = .ended t) : t = s := by
  obtain h' | ⟨pat, phases, h'⟩ := memAlgorithmBody_eq i s <;> rw [h'] at h
  · cases h; rfl
  · exact memBody_inside_ended h

/-- R326: every call of the suite is a memory algorithm. -/
theorem suiteCall_memTable (c : Cfg) {k : Nat} (hk : k < 19) : ∃ row, memTable (suiteCall c k) = some row := by
  interval_cases k <;> exact ⟨_, rfl⟩

theorem eq_suiteCall_of_decode {c : Cfg} {k : Nat} (hk : k < 19) {i : Instr}
    (h : decode (Spec.suiteWord c k) = .ok i) : i = suiteCall c k := by
  rw [suiteWord_eq_encode c hk, decode_encode (suiteCall_wellFormed c k)] at h
  exact (Except.ok.inj h).symm

/-- R327, R336: a step of a memory algorithm as a call of the suite, beside its step as a command. -/
theorem memAlgorithmBody_of_exec {i : Instr} {row : Option Byte × List MemPhase} (hi : memTable i = some row)
    {s u : State} (hs : s.Running) (h : exec i s = .next u) :
    (u.busy = true ∧ memAlgorithmBody i s = .more (u.setProgress s.progress)) ∨
    (u.busy = false ∧ memAlgorithmBody i s = .ended s) := by
  obtain ⟨pat, phases⟩ := row
  rw [exec_memTable hi hs] at h
  obtain rfl := Host.Outcome.next.inj h
  have hinside := memBody_inside s pat phases
  rw [memAlgorithmBody_of_memTable hi]
  obtain ⟨t, ht | ht⟩ := memBody_goes_or_ends true pat phases s
  · have hframed := memBody_framed s true pat phases
    rw [ht] at hinside hframed ⊢
    have hbusy : t.busy = s.busy := eq_of_fixed hframed.1 State.busy
    exact .inl ⟨hbusy.trans hs.1, hinside⟩
  · rw [ht] at hinside ⊢
    exact .inr ⟨rfl, hinside.trans (congrArg _ (memBody_inside_ended hinside))⟩

section
variable {s : State} (hs : s.Running)
include hs

theorem exec_suite : exec .suite s = .next (finish (suiteBody true s)) := exec_running hs.1 hs.2

theorem exec_suite_prologue (hphase : s.seq.phase = 0) (hop : s.seq.op = 0) :
    exec .suite s = .next (suitePrologue s) := by
  rw [exec_suite hs, suiteBody, if_pos ⟨hphase, hop⟩]
  rfl

theorem exec_suite_cancel (hphase : s.seq.phase = 0) (hop : s.seq.op ≠ 0) (hcancel : s.cancelReq = true) :
    exec .suite s = .next (completeCancelled (writeFaultyMask s)) := by
  rw [exec_suite hs, suiteBody, if_neg fun h => hop h.2, if_pos ⟨hphase, hcancel⟩]
  rfl

theorem exec_suite_call (hgo : s.seq.phase = 0 → s.seq.op ≠ 0 ∧ s.cancelReq = false) :
    exec .suite s = .next (finish (callStep true s)) := by
  have hcancel : ¬ (s.seq.phase = 0 ∧ s.cancelReq = true) := fun h => by simp [(hgo h.1).2] at h
  rw [exec_suite hs, suiteBody, if_neg fun h => (hgo h.1).1 h.2, if_neg hcancel]

end

theorem callStep_more {top : Bool} {s t : State} (h : memAlgorithmBody (suiteCall s.cfg s.seq.call) s = .more t) :
    callStep top s = .more t := by
  rw [callStep, h]

theorem callStep_ended {top : Bool} {s t : State} (h : memAlgorithmBody (suiteCall s.cfg s.seq.call) s = .ended t) :
    callStep top s = endCall top t := by
  rw [callStep, h]

/-- R322, R325: what the end of a call writes. -/
theorem callRecorded_res (s : State) : (callRecorded s).res = { s.res with
    slog := s.res.slog.setIfInBounds s.seq.call ⟨encode (suiteCall s.cfg s.seq.call), s.res.tr⟩
    slogCount := BitVec.ofNat 5 (s.seq.call + 1), agg := s.res.agg.fold s.res.tr } := rfl

theorem callRecorded_eq (s : State) : callRecorded s = s.setRes (callRecorded s).res := rfl

/-- R325, R327: after call 18 comes the mask, after every other call the next one. -/
theorem endCall_next (top : Bool) {s : State} (h : s.seq.call < 18) : endCall top s =
    .more ((phaseEnd top (s.seq.call + 1) 19 (callRecorded s)).setSeq
      { s.seq with call := s.seq.call + 1, phase := 0, op := 1 }) := by
  rw [endCall_eq, if_pos (by simp only [Config.suiteCalls]; omega)]
  rfl

theorem endCall_last (top : Bool) {s : State} (h : s.seq.call = 18) : endCall top s =
    .ended (writeFaultyMask (phaseEnd top 1 1 (callRecorded s))) := by
  rw [endCall_eq, if_neg (by simp only [Config.suiteCalls]; omega)]

theorem finish_endCall_next {s : State} (h : s.seq.call < 18) : finish (endCall true s) =
    ((s.setRes (callRecorded s).res).setProgress (BitVec.ofNat 7 (100 * (s.seq.call + 1) / 19))).setSeq
      { s.seq with call := s.seq.call + 1, phase := 0, op := 1 } := by
  rw [endCall_next true h, ← callRecorded_eq]
  rfl

theorem finish_endCall_last {s : State} (h : s.seq.call = 18) : finish (endCall true s) =
    complete (s.setRes { (callRecorded s).res with aggFaultyMask := faultyMask (callRecorded s).res.agg }) := by
  rw [endCall_last true h]
  change complete (writeFaultyMask ((callRecorded s).setProgress 100#7)) = _
  generalize hr : (callRecorded s).res = r
  rw [callRecorded_eq, hr]
  rfl

/-- R327: the suite's prologue clears every register from 0x30 on. -/
theorem registers_suitePrologue (s : State) : ∀ e ∈ Spec.registers (suitePrologue s), 0x30 ≤ e.1 → e.2.2 = 0#64 := by
  rw [forall_registers_iff]
  exact Results.Unscanned.value ⟨rfl, rfl, rfl, rfl, rfl⟩

/-- R325: the end of a call, in the terms of the statement. -/
theorem endCall_recorded {s : State} (hcall : s.seq.call < 19) :
    ∃ t, finish (endCall true s) = t ∧
      t.res.slog = s.res.slog.setIfInBounds s.seq.call ⟨Spec.suiteWord s.cfg s.seq.call, s.res.tr⟩ ∧
      t.res.slogCount = BitVec.ofNat 5 (s.seq.call + 1) ∧
      Spec.folded s.res.agg s.res.tr t.res.agg ∧
      t.res = { s.res with
        slog := t.res.slog, slogCount := t.res.slogCount, agg := t.res.agg, aggFaultyMask := t.res.aggFaultyMask } ∧
      (s.seq.call < 18 → t = { s with
        res := { t.res with aggFaultyMask := s.res.aggFaultyMask }
        progress := BitVec.ofNat 7 (100 * (s.seq.call + 1) / 19)
        seq := { s.seq with call := s.seq.call + 1, phase := 0, op := 1 } }) ∧
      (s.seq.call = 18 → Spec.flags t.res.agg t.res.aggFaultyMask ∧ t = Spec.completed { s with res := t.res }) := by
  rw [suiteWord_eq_encode s.cfg hcall]
  have hres := callRecorded_res s
  have hfold : Spec.folded s.res.agg s.res.tr (callRecorded s).res.agg := folded_fold ..
  obtain hnext | hlast : s.seq.call < 18 ∨ s.seq.call = 18 := by omega
  · have hend := finish_endCall_next hnext
    generalize (callRecorded s).res = r at hres hfold hend
    exact ⟨_, hend, congrArg (·.slog) hres, congrArg (·.slogCount) hres, hfold, by rw [hres]; rfl,
      fun _ => by rw [hres]; rfl, fun h => absurd h hnext.ne⟩
  · have hend := finish_endCall_last hlast
    generalize (callRecorded s).res = r at hres hfold hend
    exact ⟨_, hend, congrArg (·.slog) hres, congrArg (·.slogCount) hres, hfold, by rw [hres]; rfl,
      fun h => absurd hlast h.ne, fun _ => ⟨flags_faultyMask r.agg, rfl⟩⟩

/-- Settles O36: the branches of the body, the call's own step taken from its command's. -/
theorem suiteSteps : Obligations.SuiteSteps := by
  unfold Obligations.SuiteSteps
  intro s hs
  refine ⟨fun hphase hop => ?_, fun hphase hop hcancel => ?_, fun i u hgo hcall hi hu => ?_⟩
  · exact ⟨_, exec_suite_prologue hs hphase hop, rfl, registers_suitePrologue s⟩
  · exact ⟨_, flags_faultyMask s.res.agg, exec_suite_cancel hs hphase hop hcancel⟩
  · obtain rfl := eq_suiteCall_of_decode hcall hi
    obtain ⟨row, hrow⟩ := suiteCall_memTable s.cfg hcall
    rw [exec_suite_call hs hgo]
    obtain ⟨hbusy, hstep⟩ | ⟨hbusy, hstep⟩ := memAlgorithmBody_of_exec hrow hs hu
    · rw [callStep_more hstep]
      exact ⟨fun _ => rfl, fun h => by simp [hbusy] at h⟩
    · rw [callStep_ended hstep]
      obtain ⟨t, ht, hrecorded⟩ := endCall_recorded hcall
      exact ⟨fun h => by simp [hbusy] at h, fun _ => ⟨t, congrArg _ ht, hrecorded⟩⟩

end Sys2Proof.Machine
end

section
/-! The steps of `FULLPASS` (R330, R332, R335, R336): O37. -/

namespace Sys2Proof.Machine
open Sys2Proof

/-- R330: the command of each stage, as the statement lists them. -/
theorem eq_stageCommand {st : Nat} {i : Instr} (hst : 1 ≤ st)
    (h : [Instr.activate, .verifyData, .verifyAddr, .verifyCtrl, .crosstalk, .suite, .deactivate][st - 1]? = some i) :
    i = stageCommand st := by
  obtain ⟨hlt, rfl⟩ := List.getElem?_eq_some_iff.mp h
  simp only [List.length_cons, List.length_nil] at hlt
  have : st ≤ 7 := by omega
  interval_cases st <;> rfl

/-- R336: a step of a stage is the step of its command, with `PROGRESS` left alone. -/
theorem stageBody_inside {s : State} (hst : s.seq.stage ≠ 0) : stageBody s.seq.stage s =
    (bodyIn true (stageCommand s.seq.stage) s).map (·.setProgress s.progress) := by
  rw [stageBody_eq_bodyIn hst, bodyIn_inside s (stageCommand_ne_fullpass _)]

/-- R332, R335: the cancel point at the start of stages 2 to 6. -/
def AtCancelPoint (s : State) : Prop :=
  2 ≤ s.seq.stage ∧ s.seq.stage ≤ 6 ∧ s.seq.phase = 0 ∧ s.seq.op = 0 ∧ s.seq.call = 0 ∧ s.cancelReq = true

theorem atCancelPoint_iff {s : State} :
    (cancelStage s.seq.stage && s.seq.atStageStart && s.cancelReq) = true ↔ AtCancelPoint s := by
  simp [cancelStage, Seq.atStageStart, AtCancelPoint, and_assoc]

section
variable {s t : State}

theorem stageStep_more (h : stageBody s.seq.stage s = .more t) : stageStep s = .more t := by
  rw [stageStep, h]

theorem stageStep_cancelled (h : stageBody s.seq.stage s = .cancelled t) : stageStep s = .more (abandonPass t) := by
  rw [stageStep, h]

theorem stageStep_fatal (h : stageBody s.seq.stage s = .fatal t) : stageStep s = .fatal t := by
  rw [stageStep, h]

theorem stageStep_next (h : stageBody s.seq.stage s = .ended t) (hst : s.seq.stage < 7) :
    stageStep s = .more (enterStage (s.seq.stage + 1) (phaseEnd true s.seq.stage 7 t)) := by
  rw [stageStep, h]
  exact if_pos hst

theorem stageStep_last (h : stageBody s.seq.stage s = .ended t) (hst : s.seq.stage = 7) :
    stageStep s = if t.work.cancelling then .cancelled t else .ended t := by
  rw [stageStep, h]
  exact if_neg (by omega)

theorem deactivateBody_ended (h : deactivateBody s = .ended t) : t = s.setMode .released := by
  unfold deactivateBody at h
  split at h
  case h_2 => split_ifs at h
  case h_4 => cases h; rfl
  all_goals cases h

/-- What a step of a stage leaves of the status (R336). -/
theorem status_of_envFramed (h : EnvFramed s t) :
    t.busy = s.busy ∧ t.done = s.done ∧ t.cancelReq = s.cancelReq ∧ t.cancelled = s.cancelled := by
  obtain ⟨⟨m, c, hfixed⟩, -⟩ := h
  have same {α : Type} (f : State → α) (hf : ∀ u : State, f u.fixed = f u)
      (hs : f { s.fixed with mode := m, fatal := c } = f s) : f t = f s := by
    rw [← hf, hfixed, hs]
  exact ⟨same _ (fun _ => rfl) rfl, same _ (fun _ => rfl) rfl, same _ (fun _ => rfl) rfl, same _ (fun _ => rfl) rfl⟩

variable (hs : s.Running)
include hs

theorem exec_fullpass : exec .fullpass s = .next (finish (fullpassBody s)) := exec_running hs.1 hs.2

theorem exec_fullpass_prologue (hst : s.seq.stage = 0) : exec .fullpass s =
    .next (enterStage 1 ((clearResults s).setWork { s.work with cancelling := false })) := by
  rw [exec_fullpass hs, fullpassBody, if_pos hst]
  rfl

theorem exec_fullpass_cancel (h : AtCancelPoint s) : exec .fullpass s = .next (abandonPass s) := by
  have hst : s.seq.stage ≠ 0 := by have := h.1; omega
  rw [exec_fullpass hs, fullpassBody, if_neg hst, if_pos (atCancelPoint_iff.mpr h)]
  rfl

theorem exec_fullpass_stage (hst : s.seq.stage ≠ 0) (h : ¬ AtCancelPoint s) :
    exec .fullpass s = .next (finish (stageStep s)) := by
  rw [exec_fullpass hs, fullpassBody, if_neg hst, if_neg fun hc => h (atCancelPoint_iff.mp hc)]

/-- A step of a stage, by the step of its command. -/
theorem exec_fullpass_of_command (hst : 1 ≤ s.seq.stage) (hlast : s.seq.stage ≤ 7) (hpoint : ¬ AtCancelPoint s)
    (hcancelled : s.cancelled = false) {u : State} (hu : exec (stageCommand s.seq.stage) s = .next u) :
    (u.busy = true → exec .fullpass s = .next { u with progress := s.progress }) ∧
    (u.busy = false → u.cancelled = false → s.seq.stage ≤ 6 →
      exec .fullpass s = .next { u with
        busy := true, done := s.done, cancelReq := s.cancelReq
        progress := BitVec.ofNat 7 (100 * s.seq.stage / 7)
        seq := { Spec.seqZero with stage := s.seq.stage + 1 } }) ∧
    (u.busy = false → u.cancelled = true →
      exec .fullpass s = .next { u with
        busy := true, done := s.done, cancelReq := s.cancelReq, cancelled := false
        progress := s.progress
        work := { u.work with cancelling := true }
        seq := { Spec.seqZero with stage := 7 } }) ∧
    (u.busy = false → s.seq.stage = 7 → s.work.cancelling = false → exec .fullpass s = .next u) ∧
    (u.busy = false → s.seq.stage = 7 → s.work.cancelling = true →
      exec .fullpass s = .next { u with cancelled := true, progress := s.progress }) := by
  rw [exec_running hs.1 hs.2, bodyOf_eq_bodyIn] at hu
  obtain rfl := Host.Outcome.next.inj hu
  have hbody := stageBody_inside (s := s) (by omega)
  have hstatus := status_of_envFramed (primitive_envFramed (stageCommand_ne_fullpass s.seq.stage) true s)
  rw [exec_fullpass_stage hs (by omega) hpoint]
  generalize hr : bodyIn true (stageCommand s.seq.stage) s = r at hbody hstatus
  obtain ⟨hbusy, hdone, hreq, hcan⟩ := hstatus
  rw [hs.1] at hbusy
  rw [hcancelled] at hcan
  cases r with
  | more t =>
    rw [stageStep_more hbody]
    have hgoes : t.busy ≠ false := ne_of_eq_of_ne hbusy Bool.false_ne_true.symm
    exact ⟨fun _ => rfl, fun h => absurd h hgoes, fun h => absurd h hgoes, fun h => absurd h hgoes,
      fun h => absurd h hgoes⟩
  | fatal t =>
    rw [stageStep_fatal hbody]
    have hgoes : t.busy ≠ false := ne_of_eq_of_ne hbusy Bool.false_ne_true.symm
    exact ⟨fun _ => rfl, fun h => absurd h hgoes, fun h => absurd h hgoes, fun h => absurd h hgoes,
      fun h => absurd h hgoes⟩
  | cancelled t =>
    have hlt : s.seq.stage < 7 := stageBody_cancelled hbody
    rw [stageStep_cancelled hbody]
    refine ⟨fun h => absurd h Bool.false_ne_true, fun _ h => absurd h.symm Bool.false_ne_true, fun _ _ => ?_,
      fun _ h => absurd h hlt.ne, fun _ h => absurd h hlt.ne⟩
    have habandon : finish (.more (abandonPass (t.setProgress s.progress))) = { completeCancelled t with
        busy := t.busy, done := t.done, cancelReq := t.cancelReq, cancelled := t.cancelled, progress := s.progress
        work := { t.work with cancelling := true }, seq := { Spec.seqZero with stage := 7 } } := rfl
    rw [habandon, show t.busy = true from hbusy, show t.done = s.done from hdone,
      show t.cancelReq = s.cancelReq from hreq, show t.cancelled = false from hcan]
    rfl
  | ended t =>
    refine ⟨fun h => absurd h Bool.false_ne_true, fun _ _ hlt => ?_, fun _ h => ?_, fun _ hseven hc => ?_,
      fun _ hseven hc => ?_⟩
    · have hnext : finish (.more (enterStage (s.seq.stage + 1)
          (phaseEnd true s.seq.stage 7 (t.setProgress s.progress)))) = { complete t with
          busy := t.busy, done := t.done, cancelReq := t.cancelReq
          progress := BitVec.ofNat 7 (100 * s.seq.stage / 7)
          seq := { Spec.seqZero with stage := s.seq.stage + 1 } } := rfl
      rw [stageStep_next hbody (by omega), hnext, show t.busy = true from hbusy, show t.done = s.done from hdone,
        show t.cancelReq = s.cancelReq from hreq]
      rfl
    · exact absurd (hcan.symm.trans h) (by decide)
    all_goals
      rw [hseven] at hr
      obtain rfl := deactivateBody_ended hr
      rw [stageStep_last hbody hseven]
    · exact congrArg _ (congrArg finish (if_neg (by simp [hc])))
    · exact congrArg _ (congrArg finish (if_pos (by simp [hc])))

end

/-- Settles O37: the branches of the body, a stage's own step taken from its command's. -/
theorem fullpassSteps : Obligations.FullpassSteps := by
  unfold Obligations.FullpassSteps
  intro s hs
  refine ⟨fun hst => ?_, fun h2 h6 hphase hop hcall hreq => ?_, fun i u hi hst hpoint hcancelled hu => ?_⟩
  · exact ⟨_, exec_fullpass_prologue hs hst, rfl, registers_of_res_zero rfl⟩
  · exact exec_fullpass_cancel hs ⟨h2, h6, hphase, hop, hcall, hreq⟩
  · obtain rfl := eq_stageCommand hst hi
    have hlast : s.seq.stage ≤ 7 := by
      obtain ⟨hlt, -⟩ := List.getElem?_eq_some_iff.mp hi
      simp only [List.length_cons, List.length_nil] at hlt
      omega
    exact exec_fullpass_of_command hs hst hlast hpoint hcancelled hu

end Sys2Proof.Machine
end

section
/-! The whole run of `SUITE` (R322 to R327): O38. -/

namespace Sys2Proof.Machine
open Sys2Proof

/-! ### Runs of a command that keep an invariant -/

/-- One step of a body, as a step of its command: it goes on at a state with `P`, or ends the command at one with
`Q`. -/
def BodyStep.Leads (P Q : State → Prop) : BodyStep → Prop
  | .more t => P t
  | .ended t => Q (complete t)
  | .cancelled t => Q (completeCancelled t)
  | .fatal t => Q t

section
variable {P Q : State → Prop}

@[simp] theorem leads_more (t : State) : (BodyStep.more t).Leads P Q ↔ P t := .rfl
@[simp] theorem leads_ended (t : State) : (BodyStep.ended t).Leads P Q ↔ Q (complete t) := .rfl
@[simp] theorem leads_cancelled (t : State) : (BodyStep.cancelled t).Leads P Q ↔ Q (completeCancelled t) := .rfl
@[simp] theorem leads_fatal (t : State) : (BodyStep.fatal t).Leads P Q ↔ Q t := .rfl

/-- A running command whose steps keep `P` until it ends, ends, and where it does `Q` holds. -/
theorem run_leads {α : Type} [LT α] [WellFoundedLT α] {ρ : State → α} {i : Instr} (hrank : Descends ρ (bodyOf i))
    (hrunning : ∀ s, P s → s.Running) (hstep : ∀ s, P s → (bodyOf i s).Leads P Q) {s : State} (hs : P s) :
    ∃ n t, Spec.execN i n s = .next t ∧ Q t := by
  induction s using (InvImage.wf ρ wellFounded_lt).induction with
  | _ s ih =>
    have hrun := hrunning s hs
    have hexec := exec_running (i := i) hrun.1 hrun.2
    have hlead := hstep s hs
    have hlt := hrank s
    cases hr : bodyOf i s with
    | more t =>
      rw [hr] at hexec hlead hlt
      obtain ⟨n, u, hsteps, hend⟩ := ih t hlt hlead
      exact ⟨n + 1, u, (execN_succ hexec n).trans hsteps, hend⟩
    | ended t | cancelled t | fatal t =>
      rw [hr] at hexec hlead
      exact ⟨1, _, execN_succ hexec 0, hlead⟩

end

/-! ### The counters of a TestResult, and their sum over the log -/

/-- R236: a counter of a result: the total, or the one of a bit. -/
def TestResult.counter (r : TestResult) : Option (Fin 8) → Word32
  | none => r.total
  | some i => r.bit.get i

theorem fold_counter (a r : TestResult) (k : Option (Fin 8)) :
    (a.fold r).counter k = sat32 ((a.counter k).toNat + (r.counter k).toNat) := by
  cases k with
  | none => exact fold_total a r
  | some i => exact fold_bit a r i

theorem zero_counter (k : Option (Fin 8)) : TestResult.zero.counter k = 0#32 := by
  cases k with
  | none => rfl
  | some i => exact vec8_get _ i

/-- The sum of a counter over the first `n` entries of the log. -/
def logSum (slog : Vector SlogEntry 19) (k : Option (Fin 8)) (n : Nat) : Nat :=
  (((List.finRange 19).take n).map fun c => ((slog.get c).result.counter k).toNat).sum

theorem logSum_nineteen (slog : Vector SlogEntry 19) (k : Option (Fin 8)) :
    logSum slog k 19 = ((List.finRange 19).map fun c => ((slog.get c).result.counter k).toNat).sum := by
  rw [logSum, List.take_of_length_le (by simp)]

/-- A new entry at the end of the log adds its counter. -/
theorem logSum_succ {slog slog' : Vector SlogEntry 19} {n : Nat} (hn : n < 19)
    (hsame : ∀ c : Fin 19, c.val < n → slog'.get c = slog.get c) (k : Option (Fin 8)) :
    logSum slog' k (n + 1) = logSum slog k n + ((slog'.get ⟨n, hn⟩).result.counter k).toNat := by
  have hold : ∀ c ∈ (List.finRange 19).take n, slog'.get c = slog.get c := by
    intro c hc
    obtain ⟨m, hm, rfl⟩ := List.mem_iff_getElem.mp hc
    refine hsame _ ?_
    simp only [List.length_take, List.length_finRange] at hm
    simp only [List.getElem_take, List.getElem_finRange, Fin.val_cast]
    omega
  rw [logSum, List.take_add_one, List.map_append, List.sum_append, List.map_congr_left fun c hc => by rw [hold c hc],
    ← logSum]
  simp [hn]

/-! ### What the log holds after some calls -/

/-- R322, R325: after `n` calls, each has its entry in the log, and the aggregate is their sum. -/
structure Logged (cfg : Cfg) (n : Nat) (r : Results) : Prop where
  words : ∀ c : Fin 19, c.val < n → (r.slog.get c).cmd = Spec.suiteWord cfg c.val
  sums : ∀ k, r.agg.counter k = sat32 (logSum r.slog k n)

theorem logged_suitePrologue (cfg : Cfg) (s : State) : Logged cfg 0 (suitePrologue s).res :=
  ⟨fun _ h => absurd h (Nat.not_lt_zero _), fun k => (zero_counter k).trans rfl⟩

@[simp] theorem callRecorded_cfg (s : State) : (callRecorded s).cfg = s.cfg := rfl

/-- R325: the log after the end of a call. -/
theorem callRecorded_slog_get {s : State} (hcall : s.seq.call < 19) (c : Fin 19) :
    (callRecorded s).res.slog.get c =
      if s.seq.call = c.val then ⟨Spec.suiteWord s.cfg s.seq.call, s.res.tr⟩ else s.res.slog.get c := by
  rw [suiteWord_eq_encode s.cfg hcall, callRecorded_res, Vector.get_eq_getElem, Vector.getElem_setIfInBounds]
  rfl

theorem Logged.callRecorded {s : State} (h : Logged s.cfg s.seq.call s.res) (hcall : s.seq.call < 19) :
    Logged s.cfg (s.seq.call + 1) (callRecorded s).res where
  words c hc := by
    rw [callRecorded_slog_get hcall]
    split
    case isTrue heq => rw [heq]
    case isFalse hne => exact h.words c (by omega)
  sums k := by
    have hnew := logSum_succ (slog := s.res.slog) (slog' := (Machine.callRecorded s).res.slog) hcall
      (fun c hc => (callRecorded_slog_get hcall c).trans (if_neg hc.ne')) k
    rw [callRecorded_slog_get hcall, if_pos rfl] at hnew
    change (s.res.agg.fold s.res.tr).counter k = _
    rw [fold_counter, h.sums, sat32_sat32_add, hnew]

/-! ### The steps of an undisturbed suite -/

/-- R327: with no cancel request, a step of `SUITE` is the prologue, a step of the call, or the end of a call. -/
theorem suiteBody_cases (top : Bool) {s : State} (hcancel : s.cancelReq = false) :
    (s.seq.phase = 0 ∧ s.seq.op = 0 ∧ suiteBody top s = .more (suitePrologue s)) ∨
    ¬ (s.seq.phase = 0 ∧ s.seq.op = 0) ∧
      ((∃ t, memAlgorithmBody (suiteCall s.cfg s.seq.call) s = .more t ∧ suiteBody top s = .more t) ∨
        suiteBody top s = endCall top s) := by
  unfold suiteBody
  split
  case isTrue h => exact .inl ⟨h.1, h.2, rfl⟩
  case isFalse h =>
    rw [if_neg fun hc => by simp [hcancel] at hc]
    refine .inr ⟨h, ?_⟩
    obtain hself | ⟨pat, phases, hmem⟩ := memAlgorithmBody_eq (suiteCall s.cfg s.seq.call) s
    · exact .inr (callStep_ended hself)
    · obtain ⟨t, ht | ht⟩ := memBody_goes_or_ends false pat phases s
      · exact .inl ⟨t, hmem.trans ht, callStep_more (hmem.trans ht)⟩
      · obtain rfl := memBody_inside_ended ht
        exact .inr (callStep_ended (hmem.trans ht))

theorem memAlgorithmBody_writesTr (i : Instr) (s : State) : WritesTr s (memAlgorithmBody i s).state := by
  obtain h | ⟨pat, phases, h⟩ := memAlgorithmBody_eq i s <;> rw [h]
  · rfl
  · exact memBody_writesTr ..

/-- Without a cancel request the suite is not cancelled. -/
theorem suiteBody_not_cancelled (top : Bool) {s : State} (hcancel : s.cancelReq = false) (t : State) :
    suiteBody top s ≠ .cancelled t := by
  obtain ⟨-, -, h⟩ | ⟨-, ⟨u, -, h⟩ | h⟩ := suiteBody_cases top hcancel <;> rw [h]
  · simp
  · simp
  · unfold endCall
    dsimp only
    split <;> simp

/-! ### The invariant of the suite -/

/-- R322, R325: the calls that have ended are in the log, and the aggregate is their sum. -/
structure InSuite (s : State) : Prop where
  call : s.seq.call < 19
  logged : ¬ (s.seq.phase = 0 ∧ s.seq.op = 0) → Logged s.cfg s.seq.call s.res

/-- R322 to R325: the results of a suite that has run all its calls. -/
structure SuiteEnded (s : State) : Prop where
  logged : Logged s.cfg 19 s.res
  count : s.res.slogCount = 19#5
  flags : Spec.flags s.res.agg s.res.aggFaultyMask
  tr : s.res.tr = (s.res.slog.get 18).result

theorem suiteEnded_last (top : Bool) {s : State} (h : Logged s.cfg s.seq.call s.res) (hlast : s.seq.call = 18) :
    SuiteEnded (writeFaultyMask (phaseEnd top 1 1 (callRecorded s))) := by
  have hall := h.callRecorded (by omega)
  have hget := callRecorded_slog_get (s := s) (by omega) 18
  rw [show s.seq.call = (18 : Fin 19).val from hlast, if_pos rfl] at hget
  rw [hlast] at hall
  have hcount : (callRecorded s).res.slogCount = 19#5 := by rw [callRecorded_res, hlast]
  have hres : (phaseEnd top 1 1 (callRecorded s)).res = (callRecorded s).res := by simp
  have hcfg : (phaseEnd top 1 1 (callRecorded s)).cfg = s.cfg := by simp
  refine ⟨?_, ?_, ?_, ?_⟩ <;> simp only [writeFaultyMask, State.setRes_res, hres]
  · exact ⟨fun c hc => by simpa [hcfg] using hall.words c hc, hall.sums⟩
  · exact hcount
  · exact flags_faultyMask _
  · rw [hget]
    rfl

theorem inSuite_step (top : Bool) {s : State} (hcancel : s.cancelReq = false) (h : InSuite s) :
    (suiteBody top s).Comes InSuite SuiteEnded fun _ => False := by
  have hcall := memAlgorithmBody_goesOn (suiteCall_wellFormed s.cfg s.seq.call) s
  have htr := memAlgorithmBody_writesTr (suiteCall s.cfg s.seq.call) s
  obtain ⟨-, -, hstep⟩ | ⟨hstart, ⟨t, hmem, hstep⟩ | hstep⟩ := suiteBody_cases top hcancel <;> rw [hstep]
  · exact ⟨by simp, fun _ => logged_suitePrologue s.cfg s⟩
  · rw [hmem] at hcall htr
    obtain ⟨⟨hcfg, -, hnum⟩, -, -⟩ := hcall
    have hlog := h.logged hstart
    refine ⟨hnum ▸ h.call, fun _ => ?_⟩
    rw [show t.res = _ from htr, hcfg, hnum]
    exact ⟨hlog.words, hlog.sums⟩
  · have hlog := h.logged hstart
    obtain hnext | hlast : s.seq.call < 18 ∨ s.seq.call = 18 := by have := h.call; omega
    · rw [endCall_next top hnext]
      refine ⟨by simp; omega, fun _ => ?_⟩
      simpa using hlog.callRecorded h.call
    · rw [endCall_last top hlast]
      exact suiteEnded_last top hlog hlast

/-! ### The whole run -/

theorem BodyStep.Comes.leads {go out halt Q : State → Prop} {r : BodyStep} (h : r.Comes go out halt)
    (hcancelled : ∀ t, r ≠ .cancelled t) (hout : ∀ t, out t → Q (complete t)) (hhalt : ∀ t, halt t → Q t) :
    r.Leads go Q := by
  cases r with
  | more t => exact h
  | ended t => exact hout t h
  | cancelled t => exact absurd rfl (hcancelled t)
  | fatal t => exact hhalt t h

/-- What no step of the suite writes: the frame, the pins and the results of the bus tests. -/
structure KeptBySuite (a s : State) : Prop where
  fixed : s.fixed = a.fixed
  pins : s.pins = a.pins
  buses : s.res.buses = a.res.buses

theorem KeptBySuite.step {a s : State} (h : KeptBySuite a s) (top : Bool) : KeptBySuite a (suiteBody top s).state :=
  ⟨(suiteBody_framed top s).1.trans h.fixed, (suiteBody_pins top s).trans h.pins,
    (suiteBody_buses s top).trans h.buses⟩

/-- Two results that agree on the bus tests differ in the rest alone. -/
theorem eq_of_buses {r r' : Results} (h : r'.buses = r.buses) : r' = { r with
    tr := r'.tr, agg := r'.agg, aggFaultyMask := r'.aggFaultyMask, slogCount := r'.slogCount, slog := r'.slog } := by
  calc r' = { r'.buses with
        tr := r'.tr, agg := r'.agg, aggFaultyMask := r'.aggFaultyMask, slogCount := r'.slogCount
        slog := r'.slog } := rfl
    _ = _ := by rw [h]; rfl

theorem KeptBySuite.complete_eq {a s : State} (h : KeptBySuite a s) {r : Results} (hr : s.res = r) :
    complete s = Spec.completed { a with
      res := r, trace := s.trace, answers := s.answers, answered := s.answered, seq := s.seq, work := s.work } := by
  calc complete s = complete { s.fixed with
        progress := s.progress, pins := s.pins, res := s.res, seq := s.seq, work := s.work, trace := s.trace
        answers := s.answers, answered := s.answered } := rfl
    _ = _ := by rw [h.fixed, h.pins, hr]; rfl

/-- Settles O38: acceptance, the prologue, and the invariant of the log from call to call. -/
theorem suiteRun : Obligations.SuiteRun := by
  unfold Obligations.SuiteRun
  intro s hb hmode hlen
  have haccept : exec .suite s = .next (accept (encode .suite) s) := by
    have hlegal : s.region.legal = true := decide_eq_true hlen
    rw [exec_idle hb (by simp [hmode]), present, hlegal, hmode]
    rfl
  generalize ha : accept (encode .suite) s = a at haccept
  have hrunning : ∀ u, KeptBySuite a u ∧ InSuite u → u.Running := fun u h =>
    ⟨(eq_of_fixed h.1.fixed State.busy).trans (ha ▸ rfl), by
      rw [eq_of_fixed h.1.fixed State.mode, ← ha]; simp [accept, hmode]⟩
  have hstep : ∀ u, KeptBySuite a u ∧ InSuite u → (bodyOf .suite u).Leads (fun u => KeptBySuite a u ∧ InSuite u)
      fun t => ∃ u, t = complete u ∧ KeptBySuite a u ∧ SuiteEnded u := by
    intro u ⟨hkept, hin⟩
    have hcancel : u.cancelReq = false := (eq_of_fixed hkept.fixed State.cancelReq).trans (ha ▸ rfl)
    exact ((comes_self (hkept.step true)).and (inSuite_step true hcancel hin)).leads
      (suiteBody_not_cancelled true hcancel) (fun t ht => ⟨t, rfl, ht⟩) fun _ ht => ht.2.elim
  have hstart : KeptBySuite a a ∧ InSuite a := by
    subst ha
    exact ⟨⟨rfl, rfl, rfl⟩, by simp [accept, Seq.start], fun h => absurd ⟨rfl, rfl⟩ h⟩
  obtain ⟨n, t, hrun, u, rfl, hkept, hend⟩ := run_leads (suiteBody_descends true).descends hrunning hstep hstart
  have hcfg : u.cfg = s.cfg := (eq_of_fixed hkept.fixed State.cfg).trans (ha ▸ rfl)
  have hres := eq_of_buses hkept.buses
  rw [hend.count] at hres
  have hcomplete := hkept.complete_eq hres
  subst ha
  refine ⟨n + 1, complete u, (execN_succ haccept n).trans hrun, hcomplete, ?_, ?_, ?_, hend.flags, hend.tr⟩
  · exact fun c => hcfg ▸ hend.logged.words c c.isLt
  · exact (hend.logged.sums none).trans (congrArg sat32 (logSum_nineteen ..))
  · exact fun i => (hend.logged.sums (some i)).trans (congrArg sat32 (logSum_nineteen ..))

end Sys2Proof.Machine
end

section
/-! How many answers the stages of `FULLPASS` use (R329, R410): what each operation uses. -/

namespace Sys2Proof.Machine
open Sys2Proof

section
variable (s : State)

/-! One lemma per operation, for `simp`: a read uses one answer, everything else none; and no operation touches the
flag of a cancelled pass (R332).

### The pins -/

@[simp] theorem dataDir_uses (d : Dir) : (dataDir d s).answered = s.answered ∧
    (dataDir d s).work.cancelling = s.work.cancelling := ⟨rfl, rfl⟩
@[simp] theorem dataWrite_uses (v : Byte) : (dataWrite v s).answered = s.answered ∧
    (dataWrite v s).work.cancelling = s.work.cancelling := ⟨rfl, rfl⟩
@[simp] theorem addrDir_uses (d : Dir) : (addrDir d s).answered = s.answered ∧
    (addrDir d s).work.cancelling = s.work.cancelling := ⟨rfl, rfl⟩
@[simp] theorem addrWrite_uses (v : Addr) : (addrWrite v s).answered = s.answered ∧
    (addrWrite v s).work.cancelling = s.work.cancelling := ⟨rfl, rfl⟩
@[simp] theorem ctlDir_uses (g : Sig) (d : Dir) : (ctlDir g d s).answered = s.answered ∧
    (ctlDir g d s).work.cancelling = s.work.cancelling := ⟨rfl, rfl⟩
@[simp] theorem ctlWrite_uses (g : Sig) (b : Bool) : (ctlWrite g b s).answered = s.answered ∧
    (ctlWrite g b s).work.cancelling = s.work.cancelling := ⟨rfl, rfl⟩
@[simp] theorem busDir_uses (b : Bus) (d : Dir) : (busDir b d s).answered = s.answered ∧
    (busDir b d s).work.cancelling = s.work.cancelling := by cases b <;> exact ⟨rfl, rfl⟩
@[simp] theorem busWrite_uses (b : Bus) (v : BitVec 16) : (busWrite b v s).answered = s.answered ∧
    (busWrite b v s).work.cancelling = s.work.cancelling := by cases b <;> exact ⟨rfl, rfl⟩
@[simp] theorem driveFirst_uses (p : Nat) : (driveFirst p s).answered = s.answered ∧
    (driveFirst p s).work.cancelling = s.work.cancelling := by
  unfold driveFirst; split <;> exact ⟨rfl, rfl⟩
@[simp] theorem driveSecond_uses (p : Nat) : (driveSecond p s).answered = s.answered ∧
    (driveSecond p s).work.cancelling = s.work.cancelling := by
  unfold driveSecond; split <;> exact ⟨rfl, rfl⟩
@[simp] theorem releaseFirst_uses (p : Nat) : (releaseFirst p s).answered = s.answered ∧
    (releaseFirst p s).work.cancelling = s.work.cancelling := by
  unfold releaseFirst; split <;> exact ⟨rfl, rfl⟩
@[simp] theorem releaseSecond_uses (p : Nat) : (releaseSecond p s).answered = s.answered ∧
    (releaseSecond p s).work.cancelling = s.work.cancelling := by
  unfold releaseSecond; split <;> exact ⟨rfl, rfl⟩

/-! ### The reads -/

@[simp] theorem dataRead_uses : (dataRead s).answered = s.answered + 1 ∧
    (dataRead s).work.cancelling = s.work.cancelling := ⟨rfl, rfl⟩
@[simp] theorem addrRead_uses : (addrRead s).answered = s.answered + 1 ∧
    (addrRead s).work.cancelling = s.work.cancelling := ⟨rfl, rfl⟩
@[simp] theorem ctlRead_uses (g : Sig) : (ctlRead g s).answered = s.answered + 1 ∧
    (ctlRead g s).work.cancelling = s.work.cancelling := ⟨rfl, rfl⟩
@[simp] theorem busRead_uses (b : Bus) : (busRead b s).answered = s.answered + 1 ∧
    (busRead b s).work.cancelling = s.work.cancelling := by cases b <;> exact ⟨rfl, rfl⟩
@[simp] theorem snapRead_uses (k : Nat) : (snapRead k s).answered = s.answered + 1 ∧
    (snapRead k s).work.cancelling = s.work.cancelling := by
  unfold snapRead; split <;> simp

/-! ### Delays and bookkeeping -/

@[simp] theorem settle_uses : (settle s).answered = s.answered ∧
    (settle s).work.cancelling = s.work.cancelling := ⟨rfl, rfl⟩
@[simp] theorem confirmWait_uses : (confirmWait s).answered = s.answered ∧
    (confirmWait s).work.cancelling = s.work.cancelling := ⟨rfl, rfl⟩
@[simp] theorem startConfirm_uses : (startConfirm s).answered = s.answered ∧
    (startConfirm s).work.cancelling = s.work.cancelling := ⟨rfl, rfl⟩
@[simp] theorem countSample_uses (hit : Bool) : (countSample hit s).answered = s.answered ∧
    (countSample hit s).work.cancelling = s.work.cancelling := ⟨rfl, rfl⟩
@[simp] theorem phaseEnd_uses (top : Bool) (j n : Nat) : (phaseEnd top j n s).answered = s.answered ∧
    (phaseEnd top j n s).work.cancelling = s.work.cancelling := by cases top <;> exact ⟨rfl, rfl⟩
@[simp] theorem enterLine_uses (line width pos : Nat) : (enterLine line width pos s).answered = s.answered ∧
    (enterLine line width pos s).work.cancelling = s.work.cancelling := by
  rw [enterLine_eq]; exact ⟨rfl, rfl⟩
@[simp] theorem nextG_uses (o : Nat) : (nextG o s).answered = s.answered ∧
    (nextG o s).work.cancelling = s.work.cancelling := by
  unfold nextG; split <;> exact ⟨rfl, rfl⟩
@[simp] theorem markCand_uses (g : Sig) : (markCand g s).answered = s.answered ∧
    (markCand g s).work.cancelling = s.work.cancelling := ⟨rfl, rfl⟩
@[simp] theorem markLow_uses (g : Sig) : (markLow g s).answered = s.answered ∧
    (markLow g s).work.cancelling = s.work.cancelling := ⟨rfl, rfl⟩
@[simp] theorem writeBusRecord_uses (b : Bus) (high low : BitVec 16) :
    (writeBusRecord b high low s).answered = s.answered ∧
    (writeBusRecord b high low s).work.cancelling = s.work.cancelling := by cases b <;> exact ⟨rfl, rfl⟩
@[simp] theorem writeCtrlRecord_uses (high low : BitVec 12) : (writeCtrlRecord high low s).answered = s.answered ∧
    (writeCtrlRecord high low s).work.cancelling = s.work.cancelling := ⟨rfl, rfl⟩
@[simp] theorem writeXt_uses (src dst : Word64) : (writeXt src dst s).answered = s.answered ∧
    (writeXt src dst s).work.cancelling = s.work.cancelling := ⟨rfl, rfl⟩
@[simp] theorem enterStage_uses (st : Nat) : (enterStage st s).answered = s.answered ∧
    (enterStage st s).work.cancelling = s.work.cancelling := ⟨rfl, rfl⟩

/-! ### The memory operations -/

@[simp] theorem cellWrite_uses (v : CellVal) : (cellWrite v s).answered = s.answered ∧
    (cellWrite v s).work.cancelling = s.work.cancelling := by
  rw [cellWrite_eq]; cases v <;> exact ⟨rfl, rfl⟩
@[simp] theorem cellReadDiscard_uses : (cellReadDiscard s).answered = s.answered + 1 ∧
    (cellReadDiscard s).work.cancelling = s.work.cancelling := by
  rw [cellReadDiscard_eq]; exact ⟨rfl, rfl⟩
@[simp] theorem cellFetch_uses (v : CellVal) : (cellFetch v s).answered = s.answered + 1 ∧
    (cellFetch v s).work.cancelling = s.work.cancelling := by
  rw [cellFetch_eq]; cases v <;> exact ⟨rfl, rfl⟩
@[simp] theorem accumulate_uses : (accumulate s).answered = s.answered ∧
    (accumulate s).work.cancelling = s.work.cancelling := ⟨rfl, rfl⟩
@[simp] theorem cellRead_uses (v : CellVal) : (cellRead v s).answered = s.answered + 1 ∧
    (cellRead v s).work.cancelling = s.work.cancelling := cellFetch_uses s v
@[simp] theorem rstopBegin_uses : (rstopBegin s).answered = s.answered ∧
    (rstopBegin s).work.cancelling = s.work.cancelling := by
  rw [rstopBegin_eq]; exact ⟨rfl, rfl⟩
@[simp] theorem countRead_uses : (countRead s).answered = s.answered ∧
    (countRead s).work.cancelling = s.work.cancelling := ⟨rfl, rfl⟩
@[simp] theorem readAgain_uses : (readAgain s).answered = s.answered ∧
    (readAgain s).work.cancelling = s.work.cancelling := ⟨rfl, rfl⟩
@[simp] theorem nextOp_uses (d : PassDir) (ops : List CellOp) : (nextOp d ops s).answered = s.answered ∧
    (nextOp d ops s).work.cancelling = s.work.cancelling := by
  unfold nextOp; split <;> exact ⟨rfl, rfl⟩
@[simp] theorem nextCell_uses (d : PassDir) : (nextCell d s).answered = s.answered ∧
    (nextCell d s).work.cancelling = s.work.cancelling := ⟨rfl, rfl⟩
@[simp] theorem enterPhase_uses (phases : List MemPhase) (j : Nat) : (enterPhase phases j s).answered = s.answered ∧
    (enterPhase phases j s).work.cancelling = s.work.cancelling := by
  rw [enterPhase_eq]; exact ⟨rfl, rfl⟩
@[simp] theorem loadPattern_uses (pat : Option Byte) : (loadPattern pat s).answered = s.answered ∧
    (loadPattern pat s).work.cancelling = s.work.cancelling := ⟨rfl, rfl⟩
@[simp] theorem clearTr_uses : (clearTr s).answered = s.answered ∧
    (clearTr s).work.cancelling = s.work.cancelling := ⟨rfl, rfl⟩
@[simp] theorem waitStep_uses (ms : Nat) : (waitStep ms s).answered = s.answered ∧
    (waitStep ms s).work.cancelling = s.work.cancelling := ⟨rfl, rfl⟩
@[simp] theorem suitePrologue_uses : (suitePrologue s).answered = s.answered ∧
    (suitePrologue s).work.cancelling = s.work.cancelling := ⟨rfl, rfl⟩
@[simp] theorem callRecorded_uses : (callRecorded s).answered = s.answered ∧
    (callRecorded s).work.cancelling = s.work.cancelling := ⟨rfl, rfl⟩
@[simp] theorem writeFaultyMask_uses : (writeFaultyMask s).answered = s.answered ∧
    (writeFaultyMask s).work.cancelling = s.work.cancelling := ⟨rfl, rfl⟩

end

end Sys2Proof.Machine
end

section
/-! How many answers the stages of `FULLPASS` use (R329, R410): the tests of the two buses and of the control set. -/

namespace Sys2Proof.Machine
open Sys2Proof

/-! ### Bodies that use a bounded number of answers -/

/-- From `s` the command goes on to `t`, where at most `left t` of the `left s` answers are still to be used; the flag
of a cancelled pass (R332) is as it was. -/
def Spends (left : State → ℕ) (s t : State) : Prop :=
  t.answered + left t ≤ s.answered + left s ∧ t.work.cancelling = s.work.cancelling

/-- From `s` the command has come to its end `t` with at most `left s` answers used. -/
def Spent (left : State → ℕ) (s t : State) : Prop :=
  t.answered ≤ s.answered + left s ∧ t.work.cancelling = s.work.cancelling

/-- Each step of the body keeps to the answers that `left` allows. -/
def KeepsTo (left : State → ℕ) (body : State → BodyStep) : Prop :=
  ∀ s, (body s).Comes (Spends left s) (Spent left s) fun _ => True

/-- The samples a confirmation loop (R14) has left that waits at step `top`. A step off `top` is the read of a
sample. -/
def samplesLeft (top : ℕ) (s : State) : ℕ :=
  if s.seq.op = top then s.cfg.confirmLoops.toNat - s.seq.sample
  else s.cfg.confirmLoops.toNat - (s.seq.sample + 1) + 1

theorem samplesLeft_wait {top o : ℕ} {s : State} (hop : s.seq.op = top) (ho : o ≠ top) (h : s.sampling = true) :
    samplesLeft top ((confirmWait s).gotoOp o) = samplesLeft top s := by
  rw [sampling_iff] at h
  simp [samplesLeft, hop, ho]; omega

theorem samplesLeft_count {top : ℕ} {s u : State} (hit : Bool) (hop : s.seq.op ≠ top) (hseq : u.seq = s.seq)
    (hcfg : u.cfg = s.cfg) : samplesLeft top ((countSample hit u).gotoOp top) + 1 = samplesLeft top s := by
  simp [samplesLeft, hop, hseq, hcfg]

/-- R151: the samples left in a confirmation that has `lines` lines to go, with the one it stands at. -/
def confirmReads (lines : ℕ) (s : State) : ℕ :=
  if lines = 0 ∧ s.seq.op = 0 then 0
  else (lines - 1) * s.cfg.confirmLoops.toNat + samplesLeft 0 s

/-- Where the confirmation comes to a line, all samples of that line and the following are left. -/
theorem confirmReads_line {lines : ℕ} {t : State} (hop : t.seq.op = 0) (hsample : t.seq.sample = 0) :
    confirmReads lines t = lines * t.cfg.confirmLoops.toNat := by
  cases lines with
  | zero => simp [confirmReads, hop]
  | succ n => simp [confirmReads, samplesLeft, hop, hsample, Nat.succ_mul]

/-- From a line whose loop is over, or that has none, to the next. -/
theorem confirmReads_next {lines : ℕ} {s t : State} (hlines : lines ≠ 0) (hop : t.seq.op = 0)
    (hsample : t.seq.sample = 0) (hcfg : t.cfg = s.cfg) : confirmReads (lines - 1) t ≤ confirmReads lines s := by
  rw [confirmReads_line hop hsample, confirmReads, if_neg (fun h => hlines h.1), hcfg]
  exact Nat.le_add_right _ _

theorem confirmReads_wait {lines : ℕ} {s : State} (hlines : lines ≠ 0) (hop : s.seq.op = 0) (h : s.sampling = true) :
    confirmReads lines ((confirmWait s).gotoOp 1) = confirmReads lines s := by
  rw [confirmReads, confirmReads, if_neg (fun h => hlines h.1), if_neg (fun h => hlines h.1),
    samplesLeft_wait hop Nat.one_ne_zero h]
  rfl

theorem confirmReads_count {lines : ℕ} {s u : State} (hit : Bool) (hop : s.seq.op ≠ 0) (hseq : u.seq = s.seq)
    (hcfg : u.cfg = s.cfg) : confirmReads lines ((countSample hit u).gotoOp 0) + 1 ≤ confirmReads lines s := by
  have hcount := samplesLeft_count hit hop hseq hcfg
  have hloops : ((countSample hit u).gotoOp 0).cfg = s.cfg := by simp [hcfg]
  rw [confirmReads, confirmReads, if_neg (c := lines = 0 ∧ s.seq.op = 0) (fun h => hop h.2), hloops]
  split <;> omega

/-! ### VERIFY_DATA, VERIFY_ADDR: two reads of the bus, and the samples of the candidates -/

/-- R151: the lines the confirmation has to go. -/
def busLinesLeft (b : Bus) (s : State) : ℕ := b.base + b.width - s.seq.posk

/-- The answers the test of a bus still uses. -/
def busReads (b : Bus) (s : State) : ℕ :=
  match s.seq.phase with
  | 0 | 1 => 2 + b.width * s.cfg.confirmLoops.toNat
  | 2 => 1 + confirmReads (busLinesLeft b s) s
  | 3 => 1
  | _ => 0

theorem busReads_confirm {b : Bus} {s : State} (hp : s.seq.phase = 2) :
    busReads b s = 1 + confirmReads (busLinesLeft b s) s := by
  simp only [busReads, hp]

section
variable {s : State} {b : Bus}

theorem verifyDriveLow_spends (top : Bool) (hp : s.seq.phase = 1) :
    Spends (busReads b) s (verifyDriveLow b top s) := by
  unfold verifyDriveLow
  split
  case h_4 =>
    refine ⟨?_, by simp⟩
    rw [busReads_confirm (by simp), confirmReads_line (by simp) (by simp)]
    simp [busReads, hp, busLinesLeft]; omega
  all_goals simp [Spends, busReads, hp]

theorem verifyNextLine_spends {u : State} (hp : s.seq.phase = 2) (hseq : u.seq = s.seq) (hcfg : u.cfg = s.cfg)
    (hline : busLine b s < b.width) (hanswered : u.answered = s.answered)
    (hflag : u.work.cancelling = s.work.cancelling) : Spends (busReads b) s (verifyNextLine b u) := by
  refine ⟨?_, by simp [verifyNextLine, hflag]⟩
  have hleft : busLinesLeft b (verifyNextLine b u) = busLinesLeft b s - 1 := by
    simp [verifyNextLine, busLinesLeft, hseq]; omega
  have hnext := confirmReads_next (lines := busLinesLeft b s) (s := s) (t := verifyNextLine b u)
    (by simp only [busLine, busLinesLeft] at hline ⊢; omega) (by simp [verifyNextLine]) (by simp [verifyNextLine])
    (by simp [verifyNextLine, hcfg])
  rw [busReads_confirm hp, busReads_confirm (by simp [verifyNextLine, hseq, hp]), hleft]
  simp only [verifyNextLine, enterLine_uses, hanswered] at hnext ⊢
  omega

theorem verifyConfirm_spends (top : Bool) (hp : s.seq.phase = 2) : Spends (busReads b) s (verifyConfirm b top s) := by
  unfold verifyConfirm
  split
  case h_1 hop =>
    split
    · simp [Spends, busReads, hp]
    case isFalse hline =>
    split
    · exact verifyNextLine_spends hp rfl rfl (by omega) rfl rfl
    split
    case isTrue hmore =>
      have hlines : busLinesLeft b s ≠ 0 := by simp only [busLine, busLinesLeft] at hline ⊢; omega
      refine ⟨?_, by simp⟩
      rw [busReads_confirm hp, busReads_confirm (by simpa using hp)]
      have : busLinesLeft b ((confirmWait s).gotoOp 1) = busLinesLeft b s := by simp [busLinesLeft]
      rw [this, confirmReads_wait hlines hop hmore]
      simp
    case isFalse =>
      unfold verifyDecide
      exact verifyNextLine_spends hp (by split <;> rfl) (by split <;> rfl) (by omega) (by split <;> rfl)
        (by split <;> rfl)
  case h_2 hop =>
    refine ⟨?_, by simp⟩
    have hcount := confirmReads_count (lines := busLinesLeft b s) ((busRead b s).work.rdv.getLsbD (busLine b s))
      hop (busRead_place s b).1 (busRead_place s b).2
    rw [busReads_confirm hp, busReads_confirm (by simpa using hp)]
    simp only [busLinesLeft] at hcount ⊢
    simp at hcount ⊢
    omega

theorem verifyDriveHigh_spends (top : Bool) (hp : s.seq.phase = 3) :
    Spends (busReads b) s (verifyDriveHigh b top s) := by
  unfold verifyDriveHigh
  split <;> simp [Spends, busReads, hp]

theorem verifyBusBody_keepsTo (b : Bus) (top : Bool) : KeepsTo (busReads b) (verifyBusBody b top) := by
  intro s
  unfold verifyBusBody
  split
  case h_1 hp => simp [Spends, busReads, hp]
  case h_2 hp => exact verifyDriveLow_spends top hp
  case h_3 hp => exact verifyConfirm_spends top hp
  case h_4 hp => exact verifyDriveHigh_spends top hp
  case h_5 h0 h1 h2 h3 =>
    obtain ⟨k, hk⟩ : ∃ k, s.seq.phase = k + 4 := Nat.exists_eq_add_of_le' (by grind)
    unfold verifyCleanup
    split <;> simp [Spends, Spent, busReads, hk]

end

/-! ### VERIFY_CTRL: seven reads, the samples of the candidates, and eleven reads -/

/-- The answers left in phase 3 of the test of the control set: seven signals of `G`, two of `W`, two of `RO`. -/
def ctrlHighReads (s : State) : ℕ :=
  match s.seq.op with
  | 0 | 1 => 11
  | 2 => 4 + (30 - s.seq.posk + 1)
  | 3 | 4 | 5 => if s.seq.posk = 33 then 4 else 3
  | 6 => if s.seq.posk = 33 then 3 else 2
  | _ => if s.seq.posk = 31 then 2 else 1

/-- The answers the test of the control set still uses. -/
def ctrlReads (s : State) : ℕ :=
  match s.seq.phase with
  | 0 => 18 + 7 * s.cfg.confirmLoops.toNat
  | 1 => if s.seq.op ≤ 2 then 18 + 7 * s.cfg.confirmLoops.toNat
    else 11 + 7 * s.cfg.confirmLoops.toNat + (30 - s.seq.posk + 1)
  | 2 => 11 + confirmReads (31 - s.seq.posk) s
  | 3 => ctrlHighReads s
  | _ => 0

theorem ctrlReads_confirm {s : State} (hp : s.seq.phase = 2) :
    ctrlReads s = 11 + confirmReads (31 - s.seq.posk) s := by
  simp only [ctrlReads, hp]

section
variable {s : State}

theorem ctrlDriveLow_spends (top : Bool) (hp : s.seq.phase = 1) : Spends ctrlReads s (ctrlDriveLow top s) := by
  unfold ctrlDriveLow
  split
  case h_1 hop | h_2 hop =>
    by_cases hlast : s.seq.posk < 30 <;> simp [Spends, ctrlReads, *]
  case h_3 hop => simp [Spends, ctrlReads, hp, hop]; omega
  case h_4 h0 h1 h2 =>
    have hop : ¬ s.seq.op ≤ 2 := by grind
    dsimp only
    split
    · simp [Spends, ctrlReads, hp, hop]; omega
    · refine ⟨?_, by simp⟩
      rw [ctrlReads_confirm (by simp), confirmReads_line (by simp) (by simp)]
      simp [ctrlReads, hp, hop]; omega

theorem ctrlNextLine_spends {u : State} (hp : s.seq.phase = 2) (hseq : u.seq = s.seq) (hcfg : u.cfg = s.cfg)
    (hline : ¬ 30 < s.seq.posk) (hanswered : u.answered = s.answered)
    (hflag : u.work.cancelling = s.work.cancelling) : Spends ctrlReads s (ctrlNextLine u) := by
  refine ⟨?_, by simp [ctrlNextLine, hflag]⟩
  have hleft : 31 - (ctrlNextLine u).seq.posk = 31 - s.seq.posk - 1 := by
    simp [ctrlNextLine, hseq]; omega
  have hnext := confirmReads_next (lines := 31 - s.seq.posk) (s := s) (t := ctrlNextLine u)
    (by omega) (by simp [ctrlNextLine]) (by simp [ctrlNextLine]) (by simp [ctrlNextLine, hcfg])
  rw [ctrlReads_confirm hp, ctrlReads_confirm (by simp [ctrlNextLine, hseq, hp]), hleft]
  simp only [ctrlNextLine, enterLine_uses, hanswered] at hnext ⊢
  omega

theorem ctrlConfirm_spends (top : Bool) (hp : s.seq.phase = 2) : Spends ctrlReads s (ctrlConfirm top s) := by
  unfold ctrlConfirm
  split
  case h_1 hop =>
    split
    · simp [Spends, ctrlReads, ctrlHighReads, hp]
    case isFalse hline =>
    split
    · exact ctrlNextLine_spends hp rfl rfl hline rfl rfl
    split
    case isTrue hmore =>
      refine ⟨?_, by simp⟩
      have hwait := confirmReads_wait (lines := 31 - s.seq.posk) (by omega) hop hmore
      rw [ctrlReads_confirm hp, ctrlReads_confirm (by simpa using hp)]
      simpa using hwait.le
    case isFalse =>
      unfold ctrlDecide
      exact ctrlNextLine_spends hp (by split <;> rfl) (by split <;> rfl) hline (by split <;> rfl)
        (by split <;> rfl)
  case h_2 hop =>
    refine ⟨?_, by simp⟩
    have hcount := confirmReads_count (lines := 31 - s.seq.posk) (!(ctlRead (sigG s.seq.posk) s).readTrue)
      hop (ctlRead_place s (sigG s.seq.posk)).1 (ctlRead_place s (sigG s.seq.posk)).2
    rw [ctrlReads_confirm hp, ctrlReads_confirm (by simpa using hp)]
    simp at hcount ⊢
    omega

theorem ctrlDriveHigh_spends (top : Bool) (hp : s.seq.phase = 3) : Spends ctrlReads s (ctrlDriveHigh top s) := by
  unfold ctrlDriveHigh
  split
  case h_1 hop =>
    by_cases hlast : s.seq.posk < 30 <;> simp [Spends, ctrlReads, ctrlHighReads, *]
  case h_2 hop | h_4 hop | h_5 hop => simp [Spends, ctrlReads, ctrlHighReads, hp, hop]
  case h_3 hop =>
    dsimp only
    split
    · simp [Spends, ctrlReads, ctrlHighReads, hp, hop]; omega
    · simp [Spends, ctrlReads, ctrlHighReads, hp, hop]; omega
  case h_6 hop => simp [Spends, ctrlReads, ctrlHighReads, hp, hop]; split <;> omega
  case h_7 hop => dsimp only; split <;> simp [Spends, ctrlReads, ctrlHighReads, *]
  case h_8 h0 h1 h2 h3 h4 h5 h6 =>
    obtain ⟨k, hk⟩ : ∃ k, s.seq.op = k + 7 := Nat.exists_eq_add_of_le' (by grind)
    dsimp only
    split <;> simp [Spends, ctrlReads, ctrlHighReads, *]

theorem verifyCtrlBody_keepsTo (top : Bool) : KeepsTo ctrlReads (verifyCtrlBody top) := by
  intro s
  unfold verifyCtrlBody
  split
  case h_1 hp => simp [Spends, ctrlReads, ctrlPrologue, hp]
  case h_2 hp => exact ctrlDriveLow_spends top hp
  case h_3 hp => exact ctrlConfirm_spends top hp
  case h_4 hp => exact ctrlDriveHigh_spends top hp
  case h_5 h0 h1 h2 h3 =>
    obtain ⟨k, hk⟩ : ∃ k, s.seq.phase = k + 4 := Nat.exists_eq_add_of_le' (by grind)
    unfold ctrlCleanup
    split <;> simp [Spends, Spent, ctrlReads, hk]

end

end Sys2Proof.Machine
end

section
/-! How many answers the stages of `FULLPASS` use (R329, R410): `CROSSTALK` and the deactivation. -/

namespace Sys2Proof.Machine
open Sys2Proof

/-! ### CROSSTALK: the baseline, and at each position a snapshot and the samples of one -/

/-- The answers one position uses: a snapshot, and one for each sample. -/
def snapshots (s : State) : ℕ := 14 + 14 * s.cfg.confirmLoops.toNat

/-- The answers a position still uses at its step `OP`. -/
def positionReads (s : State) : ℕ :=
  if s.seq.op ≤ 2 then snapshots s
  else if s.seq.op ≤ 16 then 17 - s.seq.op + 14 * s.cfg.confirmLoops.toNat
  else if s.seq.op = 17 then 14 * s.cfg.confirmLoops.toNat
  else if s.seq.op = 18 then 14 * (s.cfg.confirmLoops.toNat - s.seq.sample)
  else if s.seq.op ≤ 32 then 33 - s.seq.op + 14 * (s.cfg.confirmLoops.toNat - (s.seq.sample + 1))
  else 0

/-- The answers the detector still uses. -/
def crosstalkReads (s : State) : ℕ :=
  if s.seq.phase = 0 then min 14 (15 - s.seq.op) + 33 * snapshots s
  else (33 - s.seq.phase) * snapshots s + positionReads s

theorem crosstalkReads_position {s : State} (hp : s.seq.phase ≠ 0) :
    crosstalkReads s = (33 - s.seq.phase) * snapshots s + positionReads s := if_neg hp

theorem crosstalkReads_enterPosition {j : ℕ} {s : State} (hj : j < 33) :
    crosstalkReads (enterPosition j s) = (33 - j) * snapshots s := by
  have hleft : 33 - j = 33 - (j + 1) + 1 := by omega
  rw [crosstalkReads_position (by simp [enterPosition]), hleft, Nat.succ_mul]
  rfl

section
variable {s : State}

theorem xtPrologue_spends (hp : s.seq.phase = 0) : Spends crosstalkReads s (xtPrologue s) := by
  unfold xtPrologue snapReads
  split_ifs with hop hread
  · simp [Spends, crosstalkReads, snapshots, hp, hop]
  · simp [Spends, crosstalkReads, snapshots, hp]; omega
  · refine ⟨?_, by simp [enterPosition]⟩
    rw [crosstalkReads_enterPosition (by decide)]
    simp [enterPosition, crosstalkReads, snapshots, hp]

/-- A step within a position. -/
theorem position_spends {u : State} (hp : s.seq.phase ≠ 0)
    (hu : u.seq.phase = s.seq.phase ∧ u.cfg = s.cfg) (hflag : u.work.cancelling = s.work.cancelling)
    (hreads : u.answered + positionReads u ≤ s.answered + positionReads s) : Spends crosstalkReads s u := by
  refine ⟨?_, hflag⟩
  rw [crosstalkReads_position hp, crosstalkReads_position (hu.1 ▸ hp), snapshots, snapshots, hu.1, hu.2]
  omega

theorem xtConfirm_spends (hp : s.seq.phase ≠ 0) (hop : s.seq.op = 18) :
    Spends crosstalkReads s (if s.sampling then (confirmWait s).gotoOp 19 else xtDecide s) := by
  split
  case isTrue hmore =>
    rw [sampling_iff] at hmore
    exact position_spends hp (by simp) (by simp) (by simp [positionReads, hop]; omega)
  case isFalse =>
    unfold xtDecide
    exact position_spends hp (by split <;> simp) (by split <;> simp) (by split <;> simp [positionReads])

theorem xtNext_spends (top : Bool) (hp : s.seq.phase ≠ 0) :
    (xtNext top s).Comes (Spends crosstalkReads s) (Spent crosstalkReads s) fun _ => True := by
  unfold xtNext Config.drivableCount
  split
  case isTrue hlt =>
    refine ⟨?_, by simp [enterPosition]⟩
    rw [crosstalkReads_enterPosition hlt, crosstalkReads_position hp]
    simp [enterPosition, snapshots]
  case isFalse => simp [Spent]

theorem xtPosition_spends (top : Bool) (hp : s.seq.phase ≠ 0) :
    (xtPosition top s).Comes (Spends crosstalkReads s) (Spent crosstalkReads s) fun _ => True := by
  by_cases h18 : s.seq.op = 18
  · have hconfirm : xtPosition top s = .more (if s.sampling then (confirmWait s).gotoOp 19 else xtDecide s) := by
      simp [xtPosition, h18]
    rw [hconfirm]
    exact xtConfirm_spends hp h18
  generalize hr : xtPosition top s = r
  have hstep : XtStep s top r := hr ▸ xtPosition_step s top
  cases hstep with
  | cancel hop => simp [Spent]
  | driveFirst hop =>
    exact position_spends hp (by simp) (by simp) (by split <;> simp [positionReads, snapshots, hop])
  | driveSecond hop => exact position_spends hp (by simp) (by simp) (by simp [positionReads, snapshots, hop])
  | settle hop => exact position_spends hp (by simp) (by simp) (by simp [positionReads, snapshots, hop])
  | read hop =>
    refine position_spends hp (by simp) (by simp) ?_
    simp only [positionReads, State.gotoOp_answered, snapRead_uses, State.gotoOp_seq, State.gotoOp_cfg, snapRead_place]
    split_ifs <;> omega
  | trigger hop =>
    unfold xtTrigger
    dsimp only
    split <;> exact position_spends hp (by simp) (by simp) (by simp [positionReads, hop])
  | wait hop | decide hop => exact absurd hop h18
  | sampleRead hop =>
    refine position_spends hp (by simp) (by simp) ?_
    simp only [positionReads, State.gotoOp_answered, snapRead_uses, State.gotoOp_seq, State.gotoOp_cfg, snapRead_place]
    split_ifs <;> omega
  | sample hop =>
    refine position_spends hp (by simp [xtSample]) (by simp [xtSample]) ?_
    simp [xtSample, positionReads, hop]; omega
  | releaseFirst hop => exact position_spends hp (by simp) (by simp) (by split <;> simp [positionReads])
  | releaseSecond hop => exact position_spends hp (by simp) (by simp) (by simp [positionReads])
  | next hop => exact xtNext_spends top hp

theorem crosstalkBody_keepsTo (top : Bool) : KeepsTo crosstalkReads (crosstalkBody top) := by
  intro s
  unfold crosstalkBody
  split
  case h_1 hp => exact xtPrologue_spends hp
  case h_2 hp => exact xtPosition_spends top (by omega)

end

end Sys2Proof.Machine
end

section
/-! How many answers the stages of `FULLPASS` use (R329, R410): the memory algorithms and the suite. -/

namespace Sys2Proof.Machine
open Sys2Proof

/-! ### The reads of a table -/

/-- R233, R250: the reads an operation makes of a cell, at most. -/
def CellOp.reads : CellOp → ℕ
  | .w _ => 0
  | .r _ | .rd => 1
  | .rstop _ n => n

/-- The reads a list of operations makes of a cell, at most. -/
def opsReads (ops : List CellOp) : ℕ := (ops.map CellOp.reads).sum

/-- R256: the reads a phase makes of each cell of the region. -/
def MemPhase.reads : MemPhase → ℕ
  | .pass _ ops => opsReads ops
  | .wait _ _ => 0

/-- R256: the reads a memory algorithm makes of each cell of the region. -/
def tableReads (phases : List MemPhase) : ℕ := (phases.map MemPhase.reads).sum

/-! ### The cells of a pass -/

/-- The cells after cell `k` of a pass over `len` cells. -/
def cellsAfter (d : PassDir) (len k : ℕ) : ℕ :=
  match d with
  | .asc => len - (k + 1)
  | .desc => k

/-- The cells a pass that comes to `k` has left, with cell `k`. -/
def cellsFrom (d : PassDir) (len k : ℕ) : ℕ := if k < Config.passEnd then cellsAfter d len k + 1 else 0

theorem cellsFrom_end (d : PassDir) (len : ℕ) : cellsFrom d len Config.passEnd = 0 := if_neg (lt_irrefl _)

theorem cellsFrom_le (d : PassDir) (len k : ℕ) : cellsFrom d len k ≤ cellsAfter d len k + 1 := by
  unfold cellsFrom
  split <;> omega

theorem cellsFrom_first (d : PassDir) (len : ℕ) : cellsFrom d len (d.first len) ≤ len := by
  unfold PassDir.first
  split
  · simp [cellsFrom_end]
  · refine (cellsFrom_le ..).trans ?_
    cases d <;> simp only [cellsAfter] <;> omega

theorem cellsFrom_next (d : PassDir) (len k : ℕ) : cellsFrom d len (d.next len k) ≤ cellsAfter d len k := by
  cases d with
  | asc =>
    simp only [PassDir.next]
    split
    · refine (cellsFrom_le ..).trans ?_
      simp only [cellsAfter]
      omega
    · simp [cellsFrom_end]
  | desc =>
    simp only [PassDir.next]
    split
    · simp [cellsFrom_end]
    · refine (cellsFrom_le ..).trans ?_
      simp only [cellsAfter]
      omega

/-! ### The reads left in a pass -/

/-- The reads left of the operation that stands at a cell: `RDCNT` counts those of `rstop` (R250), from 0 where
`SAMPLE` is 0. -/
def CellOp.left (s : State) : CellOp → ℕ
  | .rstop _ n => if s.seq.sample = 0 then n else n - s.work.rdcnt.toNat
  | o => o.reads

/-- The reads left of a cell. -/
def cellLeft (ops : List CellOp) (s : State) : ℕ :=
  (ops[s.seq.op]?.elim 0 (CellOp.left s)) + opsReads (ops.drop (s.seq.op + 1))

/-- The reads left in a pass. -/
def passLeft (d : PassDir) (ops : List CellOp) (s : State) : ℕ :=
  if s.seq.posk < Config.passEnd then
    cellsAfter d s.region.length.toNat s.seq.posk * opsReads ops + cellLeft ops s
  else 0

theorem cellLeft_of_sample {ops : List CellOp} {s : State} (h : s.seq.sample = 0) :
    cellLeft ops s = opsReads (ops.drop s.seq.op) := by
  unfold cellLeft
  obtain hlt | hge := Nat.lt_or_ge s.seq.op ops.length
  · rw [List.drop_eq_getElem_cons hlt, List.getElem?_eq_getElem hlt]
    generalize ops[s.seq.op] = o
    cases o <;> simp [CellOp.left, CellOp.reads, opsReads, h]
  · rw [List.getElem?_eq_none hge, List.drop_of_length_le hge, List.drop_of_length_le (by omega)]
    rfl

/-- Where a pass comes to a cell, all reads of the cells from there on are left. -/
theorem passLeft_cell {d : PassDir} {ops : List CellOp} {s : State} (hop : s.seq.op = 0) (hsample : s.seq.sample = 0) :
    passLeft d ops s = cellsFrom d s.region.length.toNat s.seq.posk * opsReads ops := by
  unfold passLeft cellsFrom
  split
  · rw [cellLeft_of_sample hsample, hop, List.drop_zero, Nat.succ_mul]
  · rw [Nat.zero_mul]

section
variable {d : PassDir} {ops : List CellOp} {s u : State}

theorem passLeft_at (hk : s.seq.posk < Config.passEnd) {o : CellOp} (ho : ops[s.seq.op]? = some o) :
    passLeft d ops s = cellsAfter d s.region.length.toNat s.seq.posk * opsReads ops +
      (o.left s + opsReads (ops.drop (s.seq.op + 1))) := by
  rw [passLeft, if_pos hk, cellLeft, ho]
  rfl

theorem nextCell_left (hseq : u.seq = s.seq) (hregion : u.region = s.region) :
    passLeft d ops (nextCell d u) ≤ cellsAfter d s.region.length.toNat s.seq.posk * opsReads ops := by
  rw [passLeft_cell (by simp [nextCell]) (by simp [nextCell])]
  have hnext := cellsFrom_next d s.region.length.toNat s.seq.posk
  simpa [nextCell, hseq, hregion] using Nat.mul_le_mul_right (opsReads ops) hnext

/-- After an operation the reads of the operations that follow are left, and of the cells that follow. -/
theorem nextOp_left (hk : s.seq.posk < Config.passEnd) (hseq : u.seq = s.seq) (hregion : u.region = s.region) :
    passLeft d ops (nextOp d ops u) ≤ cellsAfter d s.region.length.toNat s.seq.posk * opsReads ops +
      opsReads (ops.drop (s.seq.op + 1)) := by
  unfold nextOp
  split
  · rw [passLeft, if_pos (by simpa [hseq] using hk), cellLeft_of_sample (by simp)]
    simp [hseq, hregion]
  · exact (nextCell_left hseq hregion).trans (Nat.le_add_right _ _)

/-- An operation that makes `n` reads, and has as many left, on to the next. -/
theorem nextOp_spends {o : CellOp} {n : ℕ} (hk : s.seq.posk < Config.passEnd) (ho : ops[s.seq.op]? = some o)
    (hseq : u.seq = s.seq) (hregion : u.region = s.region) (hanswered : u.answered = s.answered + n)
    (hn : n ≤ o.left s) (hflag : u.work.cancelling = s.work.cancelling) :
    Spends (passLeft d ops) s (nextOp d ops u) := by
  have hleft := nextOp_left (d := d) (ops := ops) hk hseq hregion
  refine ⟨?_, by simpa using hflag⟩
  rw [passLeft_at hk ho, (nextOp_uses u d ops).1, hanswered]
  omega

/-- A read of a repeated read that is not its last. -/
theorem readAgain_spends {t : State} {v : CellVal} {n : ℕ} (hk : s.seq.posk < Config.passEnd)
    (ho : ops[s.seq.op]? = some (.rstop v n)) (hseq : t.seq = { s.seq with sample := s.seq.sample + 1 })
    (hregion : t.region = s.region) (hanswered : t.answered = s.answered + 1)
    (hleft : CellOp.left t (.rstop v n) + 1 ≤ CellOp.left s (.rstop v n))
    (hflag : t.work.cancelling = s.work.cancelling) : Spends (passLeft d ops) s t := by
  refine ⟨?_, hflag⟩
  rw [passLeft_at hk ho, passLeft_at (o := .rstop v n) (by rw [hseq]; exact hk) (by rw [hseq]; exact ho), hseq,
    hregion, hanswered]
  dsimp only
  omega

theorem rstopTurn_spends {v : CellVal} {n : ℕ} (hk : s.seq.posk < Config.passEnd)
    (ho : ops[s.seq.op]? = some (.rstop v n)) (hn : n < 256) :
    Spends (passLeft d ops) s (rstopTurn d ops v n s) := by
  have hleft : CellOp.left s (.rstop v n) = n - (rstopBegin s).work.rdcnt.toNat := by
    rw [rstopBegin_eq, CellOp.left]
    dsimp only
    split <;> rfl
  obtain ⟨-, h⟩ | ⟨hlt, -, h⟩ | ⟨hlt, -, h⟩ := rstopTurn_cases d ops v n s <;> rw [h]
  · exact nextOp_spends (n := 0) hk ho (by simp) (fixed_region (by simp)) (by simp) (Nat.zero_le _) (by simp)
  · exact nextOp_spends (n := 1) hk ho (by simp) (fixed_region (by simp)) (by simp) (by omega) (by simp)
  · refine readAgain_spends hk ho (by simp) (fixed_region (by simp)) (by simp) ?_ (by simp)
    rw [hleft]
    generalize rstopBegin s = b at hlt
    simp [CellOp.left, readAgain, countRead_eq, cellFetch_eq]
    omega

theorem passStep_spends (hk : s.seq.posk < Config.passEnd) (hfit : (MemPhase.pass d ops).CountsFit) :
    Spends (passLeft d ops) s (passStep d ops s) := by
  unfold passStep
  split
  case h_2 =>
    refine ⟨?_, by simp⟩
    have hleft := nextCell_left (d := d) (ops := ops) (s := s) rfl rfl
    rw [(nextCell_uses s d).1, passLeft.eq_def d ops s, if_pos hk]
    omega
  case h_1 o ho =>
    cases o with
    | w v =>
      exact nextOp_spends (n := 0) hk ho (cellWrite_place s v).1 (fixed_region (cellWrite_frame s v).1)
        (cellWrite_uses s v).1 (Nat.zero_le _) (cellWrite_uses s v).2
    | r v =>
      exact nextOp_spends (n := 1) hk ho (cellRead_place s v).1 (fixed_region (cellRead_frame s v).1)
        (cellRead_uses s v).1 le_rfl (cellRead_uses s v).2
    | rd =>
      exact nextOp_spends (n := 1) hk ho (cellReadDiscard_place s).1 (fixed_region (cellReadDiscard_frame s).1)
        (cellReadDiscard_uses s).1 le_rfl (cellReadDiscard_uses s).2
    | rstop v n => exact rstopTurn_spends hk ho (hfit v n (List.mem_of_getElem? ho))

end

/-! ### The reads left of a memory algorithm -/

/-- The reads left in the phase the algorithm is in. -/
def phaseLeft (s : State) : MemPhase → ℕ
  | .pass d ops => passLeft d ops s
  | .wait _ _ => 0

/-- The reads left of an algorithm: in its phase, and in the phases that follow. -/
def memLeft (phases : List MemPhase) (s : State) : ℕ :=
  match s.seq.phase with
  | 0 => tableReads phases * s.region.length.toNat
  | j + 1 => tableReads (phases.drop (j + 1)) * s.region.length.toNat + phases[j]?.elim 0 (phaseLeft s)

theorem tableReads_drop {phases : List MemPhase} {j : ℕ} {p : MemPhase} (hp : phases[j]? = some p) :
    tableReads (phases.drop j) = p.reads + tableReads (phases.drop (j + 1)) := by
  obtain ⟨hlt, rfl⟩ := List.getElem?_eq_some_iff.mp hp
  rw [List.drop_eq_getElem_cons hlt]
  rfl

section
variable {phases : List MemPhase} {s : State}

theorem memLeft_phase {j : ℕ} {p : MemPhase} (hphase : s.seq.phase = j + 1) (hp : phases[j]? = some p) :
    memLeft phases s = tableReads (phases.drop (j + 1)) * s.region.length.toNat + phaseLeft s p := by
  simp only [memLeft, hphase, hp]
  rfl

/-- Where a phase begins, its reads of every cell are left, and those of the phases that follow. -/
theorem memLeft_enterPhase (j : ℕ) (u : State) :
    memLeft phases (enterPhase phases j u) ≤ tableReads (phases.drop j) * u.region.length.toNat := by
  have hregion : (enterPhase phases j u).region = u.region := fixed_region (by simp)
  cases hp : phases[j]? with
  | none =>
    have hlen := List.getElem?_eq_none_iff.mp hp
    have hphase : (enterPhase phases j u).seq.phase = j + 1 := by simp
    simp only [memLeft, hphase, hp]
    simp [tableReads, List.drop_of_length_le (Nat.le_succ_of_le hlen)]
  | some p =>
    rw [memLeft_phase (by simp) hp, tableReads_drop hp, hregion, Nat.add_mul, Nat.add_comm]
    refine Nat.add_le_add_right ?_ _
    cases p with
    | wait ms n => simp [phaseLeft]
    | pass d ops =>
      have hfirst := cellsFrom_first d u.region.length.toNat
      rw [phaseLeft, passLeft_cell (by simp [enterPhase_eq]) (by simp [enterPhase_eq]), hregion, Nat.mul_comm]
      simpa [enterPhase_eq, hp, MemPhase.reads] using Nat.mul_le_mul_left (opsReads ops) hfirst

theorem endPhase_spends (top : Bool) {j : ℕ} {p : MemPhase} (hphase : s.seq.phase = j + 1) (hp : phases[j]? = some p) :
    (endPhase top phases (j + 1) s).Comes (Spends (memLeft phases) s) (Spent (memLeft phases) s) fun _ => True := by
  unfold endPhase
  split
  · have hregion : (phaseEnd top (j + 1) phases.length s).region = s.region := fixed_region (by simp)
    have henter := memLeft_enterPhase (phases := phases) (j + 1) (phaseEnd top (j + 1) phases.length s)
    refine ⟨?_, by simp⟩
    rw [memLeft_phase hphase hp, ← hregion]
    simp
    omega
  · exact ⟨by simp, by simp⟩

/-- A step within a phase spends of what the phase has left. -/
theorem phase_spends {u : State} {j : ℕ} {p : MemPhase} (hphase : s.seq.phase = j + 1) (hp : phases[j]? = some p)
    (hu : u.seq.phase = s.seq.phase) (hregion : u.region = s.region) (h : Spends (phaseLeft · p) s u) :
    Spends (memLeft phases) s u := by
  obtain ⟨hreads, hflag⟩ := h
  refine ⟨?_, hflag⟩
  dsimp only at hreads
  rw [memLeft_phase hphase hp, memLeft_phase (hu.trans hphase) hp, hregion]
  omega

theorem memBody_keepsTo (hfit : ∀ p ∈ phases, p.CountsFit) (top : Bool) (pat : Option Byte) :
    KeepsTo (memLeft phases) (memBody top pat phases) := by
  intro s
  have hregion := fixed_region (memBody_framed s top pat phases).1
  obtain ⟨hp, h⟩ | ⟨j, -, -, h⟩ | ⟨j, d, ops, hp, hj, hk, h⟩ | ⟨j, ms, n, hp, hj, -, h⟩ | ⟨j, p, hp, hj, h⟩ :=
    memBody_cases top pat phases s <;> rw [h] at hregion ⊢
  · have henter := memLeft_enterPhase (phases := phases) 0 (clearTr (loadPattern pat s))
    have hlength : (clearTr (loadPattern pat s)).region = s.region := rfl
    refine ⟨?_, by simp⟩
    rw [memLeft.eq_def phases s, hp]
    rw [hlength, List.drop_zero] at henter
    simpa using henter
  · exact ⟨by simp, rfl⟩
  · have hfits := hfit _ (List.mem_of_getElem? hj)
    exact phase_spends hp hj (passStep_below hk hfits).2.1 hregion (passStep_spends hk hfits)
  · exact phase_spends hp hj (by simp) hregion ⟨by simp [phaseLeft], by simp⟩
  · exact endPhase_spends top hp hj

end

/-! ### The reads left of the suite -/

/-- The reads a call makes of each cell of the region. -/
def callReads (i : Instr) : ℕ := (memTable i).elim 0 fun row => tableReads row.2

/-- The reads the calls of a list make of each cell of the region. -/
def callsReads (l : List Instr) : ℕ := (l.map callReads).sum

/-- The reads left of a running call. -/
def callLeft (i : Instr) (s : State) : ℕ := (memTable i).elim 0 fun row => memLeft row.2 s

/-- The answers the suite still uses. -/
def suiteReads (s : State) : ℕ :=
  if s.seq.phase = 0 ∧ s.seq.op = 0 then callsReads (suiteTable s.cfg) * s.region.length.toNat
  else callsReads ((suiteTable s.cfg).drop (s.seq.call + 1)) * s.region.length.toNat +
    callLeft (suiteCall s.cfg s.seq.call) s

/-- The reads of each algorithm of the suite. -/
theorem callReads_eq :
    (∀ p t, callReads (.repwrite p t) = 1) ∧ (∀ p, callReads (.repread p) = 5) ∧ (∀ t, callReads (.checker t) = 1) ∧
    callReads .walk1 = 8 ∧ callReads .walk0 = 8 ∧ callReads .marchc = 3 ∧ callReads .marchss = 5 ∧
    callReads .marchla = 3 ∧ (∀ p, callReads (.movinv p) = 3) ∧ (∀ p, callReads (.addruniq p) = 1) ∧
    (∀ p n, callReads (.readdestr p n) = n) ∧ ∀ p d n, callReads (.retention p d n) = 1 :=
  ⟨fun _ _ => rfl, fun _ => rfl, fun _ => rfl, rfl, rfl, rfl, rfl, rfl, fun _ => rfl, fun _ => rfl,
    fun _ _ => (Nat.zero_add _).trans rfl, fun _ _ _ => rfl⟩

/-- R329, R410: the reads the suite makes of each cell. -/
theorem callsReads_suiteTable (c : Cfg) : callsReads (suiteTable c) = 53 + 2 * c.rdReads.toNat := by
  simp only [callsReads, suiteTable, List.map_cons, List.map_nil, List.sum_cons, List.sum_nil, callReads_eq]
  omega

theorem callLeft_start {i : Instr} {s : State} (h : s.seq.phase = 0) :
    callLeft i s = callReads i * s.region.length.toNat := by
  unfold callLeft callReads
  cases memTable i with
  | none => simp
  | some row => simp [memLeft, h]

theorem callsReads_drop {c : Cfg} {k : ℕ} (hk : k < 19) : callsReads ((suiteTable c).drop k) =
    callReads (suiteCall c k) + callsReads ((suiteTable c).drop (k + 1)) := by
  have hlt : k < (suiteTable c).length := hk
  rw [List.drop_eq_getElem_cons hlt, suiteCall, List.getD_eq_getElem _ _ hlt]
  rfl

theorem memAlgorithmBody_keepsTo {i : Instr} (hi : i.wellFormed = true) :
    KeepsTo (callLeft i) (memAlgorithmBody i) := by
  intro s
  unfold callLeft
  cases h : memTable i with
  | none => rw [memAlgorithmBody_of_none h]; exact ⟨Nat.le_add_right .., rfl⟩
  | some row =>
    rw [memAlgorithmBody_of_memTable h]
    exact memBody_keepsTo (memTable_countsFit hi h) false row.1 s

theorem suiteReads_call {s : State} (h : ¬ (s.seq.phase = 0 ∧ s.seq.op = 0)) :
    suiteReads s = callsReads ((suiteTable s.cfg).drop (s.seq.call + 1)) * s.region.length.toNat +
      callLeft (suiteCall s.cfg s.seq.call) s := if_neg h

/-- Where a call begins, its reads are left, and those of the calls that follow. -/
theorem suiteReads_callStart {s : State} (hphase : s.seq.phase = 0) (hop : s.seq.op = 1) (hcall : s.seq.call < 19) :
    suiteReads s = callsReads ((suiteTable s.cfg).drop s.seq.call) * s.region.length.toNat := by
  rw [suiteReads_call (by omega), callsReads_drop hcall, callLeft_start hphase, Nat.add_mul, Nat.add_comm]

theorem suiteBody_keepsTo (top : Bool) : KeepsTo suiteReads (suiteBody top) := by
  intro s
  by_cases hstart : s.seq.phase = 0 ∧ s.seq.op = 0
  · rw [suiteBody, if_pos hstart]
    refine ⟨?_, by simp⟩
    rw [suiteReads_callStart (by simp) (by simp) (by simp), suiteReads, if_pos hstart]
    exact le_rfl
  have hcall := memAlgorithmBody_keepsTo (suiteCall_wellFormed s.cfg s.seq.call) s
  have hgoes := memAlgorithmBody_goesOn (suiteCall_wellFormed s.cfg s.seq.call) s
  have hregion := fixed_region (suiteBody_framed top s).1
  generalize hr : suiteBody top s = r at hregion
  have hstep : SuiteStep top s r := hr ▸ suiteBody_step top s
  cases hstep with
  | prologue h => exact absurd h hstart
  | cancel => exact ⟨by simp, by simp⟩
  | call _ t h =>
    rw [h] at hcall hgoes
    obtain ⟨⟨hcfg, -, hnum⟩, hphase, -⟩ := hgoes
    obtain ⟨hreads, hflag⟩ := hcall
    refine ⟨?_, hflag⟩
    rw [suiteReads_call hstart, suiteReads_call (fun h => hphase h.1), hcfg, hnum,
      show t.region = s.region from hregion]
    omega
  | nextCall t h hlast =>
    obtain rfl := memAlgorithmBody_ended_eq h
    refine ⟨?_, by simp⟩
    rw [suiteReads_callStart (by simp) (by simp) (by simpa using hlast), suiteReads_call hstart]
    simp [show (phaseEnd top (t.seq.call + 1) 19 (callRecorded t)).region = t.region from hregion]
  | last t h =>
    obtain rfl := memAlgorithmBody_ended_eq h
    exact ⟨by simp, by simp⟩

end Sys2Proof.Machine
end

section
/-! The pins at the end of a `FULLPASS` (R33), from any pins at its start: what the tests of the buses and of the
control set leave. -/

namespace Sys2Proof.Machine
open Sys2Proof

/-! ### What a stage leaves at rest -/

/-- R33: the data bus is an input, its latch 0. -/
def DataRest (p : Pins) : Prop := p.dataDir = .input ∧ p.dataOut = 0#8

/-- R33: the address bus is an input, its latch 0. -/
def AddrRest (p : Pins) : Prop := p.addrDir = .input ∧ p.addrOut = 0#16

/-- The latches of the first `n` signals of `G` are inactive. -/
def OutOff (n : ℕ) (p : Pins) : Prop := ∀ g : Sig, g.idx.val < n → p.outOf g = false

/-- The first `n` signals of `G` are inputs. -/
def DirIn (n : ℕ) (p : Pins) : Prop := ∀ g : Sig, g.idx.val < n → p.dirOf g = .input

/-- R34: the two write-only signals are outputs. -/
def WindowShut (p : Pins) : Prop := p.dirOf .int = .output ∧ p.dirOf .wait = .output

/-- R33: the seven signals of `G` at rest, the two write-only ones outputs. -/
def CtrlRest (p : Pins) : Prop := OutOff 7 p ∧ DirIn 7 p ∧ WindowShut p

section
variable {l : Lines} {p q : Pins}

theorem DataRest.step (h : DataRest p) (hstep : PinStep l p q) (hl : ¬ l.data) : DataRest q := by
  cases hstep with
  | dataDir hd | dataOut hd => exact absurd hd hl
  | _ => exact h

theorem AddrRest.step (h : AddrRest p) (hstep : PinStep l p q) (hl : ¬ l.addr) : AddrRest q := by
  cases hstep with
  | addrDir ha | addrOut ha => exact absurd ha hl
  | _ => exact h

end

/-! ### The test of a bus -/

/-- R150: the bus is at rest. -/
def Bus.Rest (b : Bus) (p : Pins) : Prop :=
  match b with
  | .data => DataRest p
  | .address => AddrRest p

/-- The latch of the bus is 0. -/
def Bus.Zero (b : Bus) (p : Pins) : Prop :=
  match b with
  | .data => p.dataOut = 0#8
  | .address => p.addrOut = 0#16

/-- R150 step 4: the cleanup has set the latch, then the direction. -/
def BusReleasing (b : Bus) (s : State) : Prop :=
  4 ≤ s.seq.phase → (1 ≤ s.seq.op → b.Zero s.pins) ∧ (2 ≤ s.seq.op → b.Rest s.pins)

theorem busReleasing_of_phase {b : Bus} {s : State} (h : s.seq.phase < 4 ∨ s.seq.op = 0) : BusReleasing b s :=
  fun hp => ⟨fun ho => by omega, fun ho => by omega⟩

theorem busWrite_zero (b : Bus) (s : State) : b.Zero (busWrite b 0#16 s).pins := by
  cases b <;> rfl

theorem busDir_rest {b : Bus} {s : State} (h : b.Zero s.pins) : b.Rest (busDir b .input s).pins := by
  cases b <;> exact ⟨rfl, h⟩

theorem Bus.Rest.zero {b : Bus} {p : Pins} (h : b.Rest p) : b.Zero p := by
  cases b <;> exact h.2

theorem verifyBusBody_releasing {b : Bus} {s : State} (top : Bool) (h : BusReleasing b s) :
    (verifyBusBody b top s).Comes (BusReleasing b) (fun t => b.Rest t.pins) fun _ => False := by
  unfold verifyBusBody
  split
  case h_1 => exact busReleasing_of_phase (by simp)
  case h_2 hp =>
    refine busReleasing_of_phase (.inl ?_)
    unfold verifyDriveLow
    split <;> simp [hp]
  case h_3 hp =>
    refine busReleasing_of_phase (.inl ?_)
    unfold verifyConfirm verifyDecide verifyNextLine
    split
    · split_ifs <;> simp [hp]
    · simp [hp]
  case h_4 hp =>
    refine busReleasing_of_phase ?_
    unfold verifyDriveHigh
    split <;> simp [hp]
  case h_5 =>
    obtain ⟨hzero, hrest⟩ := h (by grind)
    unfold verifyCleanup
    split
    case h_1 => exact fun _ => ⟨fun _ => by simpa using busWrite_zero b s, fun ho => by simp at ho⟩
    case h_2 hop =>
      have hdone := busDir_rest (hzero (by omega))
      exact fun _ => ⟨fun _ => by simpa using hdone.zero, fun _ => by simpa using hdone⟩
    case h_3 h0 h1 => simpa using hrest (by grind)

/-! ### The test of the control set -/

theorem dirOf_ctlDir (g k : Sig) (d : Dir) (s : State) :
    (ctlDir g d s).pins.dirOf k = if g = k then d else s.pins.dirOf k := dirOf_set ..

theorem outOf_ctlWrite (g k : Sig) (b : Bool) (s : State) :
    (ctlWrite g b s).pins.outOf k = if g = k then b else s.pins.outOf k := outOf_set ..

@[simp] theorem outOf_ctlDir (g k : Sig) (d : Dir) (s : State) :
    (ctlDir g d s).pins.outOf k = s.pins.outOf k := rfl

@[simp] theorem dirOf_ctlWrite (g k : Sig) (b : Bool) (s : State) :
    (ctlWrite g b s).pins.dirOf k = s.pins.dirOf k := rfl

section
variable {k : ℕ} {s : State}

/-- R161: a signal of `G` set inactive after those before it. -/
theorem OutOff.write (h : OutOff (k - 24) s.pins) (hk : 24 ≤ k ∧ k ≤ 30) :
    OutOff (k + 1 - 24) (ctlWrite (sigG k) false s).pins := by
  intro g hg
  rw [outOf_ctlWrite]
  split
  case isTrue => rfl
  case isFalse hne =>
    have hidx : g.idx.val ≠ k - 24 := fun he => hne (Sig.idx_injective (Fin.ext (by rw [sigG_idx hk, he])))
    exact h g (by omega)

/-- R161: a signal of `G` made an input after those before it. -/
theorem DirIn.dir (h : DirIn (k - 24) s.pins) (hk : 24 ≤ k ∧ k ≤ 30) :
    DirIn (k + 1 - 24) (ctlDir (sigG k) .input s).pins := by
  intro g hg
  rw [dirOf_ctlDir]
  split
  case isTrue => rfl
  case isFalse hne =>
    have hidx : g.idx.val ≠ k - 24 := fun he => hne (Sig.idx_injective (Fin.ext (by rw [sigG_idx hk, he])))
    exact h g (by omega)

theorem windowShut_sigG (h : WindowShut s.pins) (d : Dir) : WindowShut (ctlDir (sigG k) d s).pins := by
  have hne : sigG k ≠ .int ∧ sigG k ≠ .wait := by
    unfold sigG
    split <;> simp
  simpa [WindowShut, dirOf_ctlDir, hne] using h

end

/-- R161 to R163: what phases 3 and 4 of the test have put at rest. -/
structure CtrlReleasing (s : State) : Prop where
  posk : 3 ≤ s.seq.phase → s.seq.op = 0 → 24 ≤ s.seq.posk ∧ s.seq.posk ≤ 30
  outs : 3 ≤ s.seq.phase → OutOff (if s.seq.phase = 3 ∧ s.seq.op = 0 then s.seq.posk - 24 else 7) s.pins
  int : s.seq.phase = 3 → 3 ≤ s.seq.op → s.seq.op ≤ 6 → s.seq.posk ≠ 33 → s.pins.dirOf .int = .output
  window : s.seq.phase = 3 ∧ 7 ≤ s.seq.op ∨ 4 ≤ s.seq.phase → WindowShut s.pins
  dirs : 4 ≤ s.seq.phase → DirIn (if s.seq.op = 0 then s.seq.posk - 24 else 7) s.pins

theorem ctrlReleasing_of_phase {s : State} (h : s.seq.phase < 3) : CtrlReleasing s :=
  ⟨fun hp => by omega, fun hp => by omega, fun hp => by omega, fun hp => by omega, fun hp => by omega⟩

theorem outOff_zero (p : Pins) : OutOff 0 p := fun _ h => absurd h (Nat.not_lt_zero _)

theorem dirIn_zero (p : Pins) : DirIn 0 p := fun _ h => absurd h (Nat.not_lt_zero _)

section
variable {s : State}

theorem ctrlDriveLow_releasing (top : Bool) (hp : s.seq.phase = 1) : CtrlReleasing (ctrlDriveLow top s) := by
  refine ctrlReleasing_of_phase ?_
  unfold ctrlDriveLow
  split
  case h_4 => dsimp only; split <;> simp [hp]
  all_goals simp [hp]

/-- Phase 3 begins with nothing at rest. -/
theorem ctrlReleasing_start {t : State} (hphase : t.seq.phase = 3) (hop : t.seq.op = 0) (hposk : t.seq.posk = 24) :
    CtrlReleasing t := by
  refine ⟨fun _ _ => by omega, fun _ => ?_, fun _ ho => by omega, fun hw => by omega, fun hp => by omega⟩
  rw [if_pos ⟨hphase, hop⟩, hposk]
  exact outOff_zero _

theorem ctrlConfirm_releasing (top : Bool) (hp : s.seq.phase = 2) : CtrlReleasing (ctrlConfirm top s) := by
  unfold ctrlConfirm ctrlDecide ctrlNextLine
  split
  · split
    · exact ctrlReleasing_start (by simp) (by simp) (by simp)
    · refine ctrlReleasing_of_phase ?_
      split_ifs <;> simp [hp]
  · exact ctrlReleasing_of_phase (by simp [hp])

/-- In phase 3, once `G` is inactive. -/
theorem ctrlReleasing_high {t : State} (hp : t.seq.phase = 3) (hop : t.seq.op ≠ 0) (houts : OutOff 7 t.pins)
    (hint : 3 ≤ t.seq.op → t.seq.op ≤ 6 → t.seq.posk ≠ 33 → t.pins.dirOf .int = .output)
    (hwindow : 7 ≤ t.seq.op → WindowShut t.pins) : CtrlReleasing t := by
  refine ⟨fun _ ho => absurd ho hop, fun _ => ?_, fun _ => hint, fun hw => hwindow (by omega), fun h4 => by omega⟩
  rwa [if_neg fun h => hop h.2]

theorem ctrlDriveHigh_releasing (top : Bool) (hp : s.seq.phase = 3) (h : CtrlReleasing s) :
    CtrlReleasing (ctrlDriveHigh top s) := by
  have houts (hop : s.seq.op ≠ 0) : OutOff 7 s.pins := by
    have := h.outs hp.ge
    rwa [if_neg fun h => hop h.2] at this
  unfold ctrlDriveHigh
  split
  case h_1 hop =>
    have hk := h.posk hp.ge hop
    have hwalk := h.outs hp.ge
    rw [if_pos ⟨hp, hop⟩] at hwalk
    have hnext := hwalk.write hk
    by_cases hlast : s.seq.posk < 30
    · refine ⟨fun _ _ => by simp [hlast]; omega, fun _ => ?_, fun _ ho => ?_, fun hw => ?_, fun h4 => ?_⟩
      · simpa [hp, hop, hlast] using hnext
      · simp [hop, hlast] at ho
      · simp [hp, hop, hlast] at hw
      · simp [hp] at h4
    · have : s.seq.posk + 1 - 24 = 7 := by omega
      rw [this] at hnext
      exact ctrlReleasing_high (by simpa using hp) (by simp [hlast]) (by simpa using hnext)
        (fun ho => by simp [hlast] at ho) (fun ho => by simp [hlast] at ho)
  case h_2 hop =>
    exact ctrlReleasing_high (by simpa using hp) (by simp) (by simpa using houts (by omega)) (fun ho => by simp at ho)
      (fun ho => by simp at ho)
  case h_3 hop =>
    dsimp only
    split
    · exact ctrlReleasing_high (by simpa using hp) (by simp) (by simpa using houts (by omega))
        (fun ho => by simp at ho) (fun ho => by simp at ho)
    · exact ctrlReleasing_high (by simpa using hp) (by simp) (by simpa using houts (by omega))
        (fun _ _ ho => by simp at ho) (fun ho => by simp at ho)
  case h_4 hop =>
    refine ctrlReleasing_high (by simpa using hp) (by simp) (by simpa [OutOff] using houts (by omega))
      (fun _ _ hk => ?_) (fun ho => by simp at ho)
    have hk : s.seq.posk ≠ 33 := by simpa using hk
    have hint := h.int hp (by omega) (by omega) hk
    simpa [dirOf_ctlDir, sigW, hk] using hint
  case h_5 hop =>
    exact ctrlReleasing_high (by simpa using hp) (by simp) (by simpa using houts (by omega))
      (fun _ _ hk => by simpa using h.int hp (by omega) (by omega) (by simpa using hk)) (fun ho => by simp at ho)
  case h_6 hop =>
    exact ctrlReleasing_high (by simpa using hp) (by simp) (by simpa using houts (by omega))
      (fun _ _ hk => by simpa using h.int hp (by omega) (by omega) (by simpa using hk)) (fun ho => by simp at ho)
  case h_7 hop =>
    dsimp only
    split
    case isTrue hk =>
      exact ctrlReleasing_high (by simpa using hp) (by simp) (by simpa [OutOff] using houts (by omega))
        (fun _ _ _ => by simp [dirOf_ctlDir, sigW, hk]) (fun ho => by simp at ho)
    case isFalse hk =>
      have hint := h.int hp (by omega) (by omega) hk
      refine ctrlReleasing_high (by simpa using hp) (by simp) (by simpa [OutOff] using houts (by omega))
        (fun _ ho => by simp at ho) (fun _ => ?_)
      simpa [WindowShut, dirOf_ctlDir, sigW, hk] using hint
  case h_8 h0 h1 h2 h3 h4 h5 h6 =>
    have hop : 7 ≤ s.seq.op := by grind
    have hwindow := h.window (.inl ⟨hp, hop⟩)
    dsimp only
    split
    · exact ctrlReleasing_high (by simpa using hp) (by simp) (by simpa using houts (by omega))
        (fun _ ho => by simp at ho) (fun _ => by simpa using hwindow)
    · refine ⟨fun _ _ => by simp, fun _ => ?_, fun ho => ?_, fun _ => by simpa using hwindow, fun _ => ?_⟩
      · simpa using houts (by omega)
      · simp at ho
      · simpa using dirIn_zero s.pins

theorem ctrlCleanup_releasing (hp : 4 ≤ s.seq.phase) (h : CtrlReleasing s) :
    (ctrlCleanup s).Comes CtrlReleasing (fun t => CtrlRest t.pins) fun _ => False := by
  have hne : s.seq.phase ≠ 3 := by omega
  have houts := h.outs (by omega)
  rw [if_neg fun h => hne h.1] at houts
  have hwindow := h.window (.inr hp)
  have hdirs := h.dirs hp
  unfold ctrlCleanup
  split
  case h_1 hop =>
    have hk := h.posk (by omega) hop
    rw [if_pos hop] at hdirs
    have hnext := hdirs.dir hk
    have hshut := windowShut_sigG (k := s.seq.posk) hwindow .input
    refine ⟨fun _ ho => ?_, fun _ => ?_, fun ho => ?_, fun _ => by simpa using hshut, fun _ => ?_⟩
    · by_cases hlast : s.seq.posk < 30
      · simp [hlast]; omega
      · simp [hlast] at ho
    · simpa [hne, OutOff] using houts
    · simp [hne] at ho
    · by_cases hlast : s.seq.posk < 30
      · simpa [hop, hlast] using hnext
      · have : s.seq.posk + 1 - 24 = 7 := by omega
        rw [this] at hnext
        simpa [hop, hlast] using hnext
  case h_2 hop =>
    rw [if_neg hop] at hdirs
    exact ⟨by simpa using houts, by simpa using hdirs, by simpa using hwindow⟩

theorem verifyCtrlBody_releasing (top : Bool) (h : CtrlReleasing s) :
    (verifyCtrlBody top s).Comes CtrlReleasing (fun t => CtrlRest t.pins) fun _ => False := by
  unfold verifyCtrlBody
  split
  case h_1 => exact ctrlReleasing_of_phase (by simp [ctrlPrologue])
  case h_2 hp => exact ctrlDriveLow_releasing top hp
  case h_3 hp => exact ctrlConfirm_releasing top hp
  case h_4 hp => exact ctrlDriveHigh_releasing top hp h
  case h_5 => exact ctrlCleanup_releasing (by grind) h

end

end Sys2Proof.Machine
end

section
/-! The pins at the end of a `FULLPASS` (R33), from any pins at its start: what `CROSSTALK` leaves (R185). -/

namespace Sys2Proof.Machine
open Sys2Proof

/-- R185: the control signals while a position with driver `d` is at step `op`, from the lines `base`. -/
def Driver.lineOn (d : Driver) (base : Sig → LineState) (op : Nat) : Sig → LineState :=
  match d with
  | .generic g =>
    if 1 ≤ op ∧ op ≤ 34 then Function.update base g ⟨.output, decide (2 ≤ op ∧ op ≤ 33)⟩ else base
  | .writeOnly g => if op = 0 then base else Function.update base g ⟨.output, decide (op ≤ 33)⟩
  | _ => base

/-- The pins while a position with driver `d` is at step `op`, from the lines `base`. -/
abbrev ShowsOn (p : Pins) (d : Driver) (base : Sig → LineState) (op : Nat) : Prop :=
  Shows p (d.dataBus op) (d.addrBus op) (d.lineOn base op)

/-- R33, R34: lines on which the test of the control set has left its signals. -/
def BaseLegal (base : Sig → LineState) : Prop :=
  (∀ g : Sig, g.idx.val ≤ 6 → base g = ⟨.input, false⟩) ∧ (base .int).dir = .output ∧ (base .wait).dir = .output

/-- R185: the signals of `G` are driven in two steps, the write-only ones in one. -/
theorem driverOf_signal (p : Nat) : (∀ g, driverOf p = .generic g → g.idx.val ≤ 6) ∧
    ∀ g, driverOf p = .writeOnly g → g = .int ∨ g = .wait := by
  unfold driverOf
  split
  · simp
  split
  · simp
  · split <;> simp [Sig.idx]

section
variable {base : Sig → LineState} {s : State} {p : Pins} {op op' : Nat}

theorem BaseLegal.generic (h : BaseLegal base) {k : Nat} {g : Sig} (hg : driverOf k = .generic g) :
    base g = ⟨.input, false⟩ := h.1 g ((driverOf_signal k).1 g hg)

theorem BaseLegal.writeOnly (h : BaseLegal base) {k : Nat} {g : Sig} (hg : driverOf k = .writeOnly g) :
    (base g).dir = .output := by
  obtain rfl | rfl := (driverOf_signal k).2 g hg
  · exact h.2.1
  · exact h.2.2

theorem ShowsOn.driven {d : Driver} (h : ShowsOn p d base op) (hop : 2 ≤ op ∧ op ≤ 33) (hop' : 2 ≤ op' ∧ op' ≤ 33) :
    ShowsOn p d base op' := by
  have h1 : 1 ≤ op ∧ op ≤ 34 := by omega
  have h1' : 1 ≤ op' ∧ op' ≤ 34 := by omega
  have h2 : op ≠ 0 ∧ op' ≠ 0 := by omega
  cases d <;>
    simpa [ShowsOn, Driver.dataBus, Driver.addrBus, Driver.lineOn, lineBus, hop, hop', h1, h1', h2] using h

theorem driveFirst_on (hb : BaseLegal base) (h : ShowsOn s.pins (driverOf s.seq.posk) base 0) :
    ShowsOn (driveFirst s.seq.posk s).pins (driverOf s.seq.posk) base (if twoStep s.seq.posk then 1 else 2) := by
  unfold driveFirst twoStep
  cases hdrv : driverOf s.seq.posk with
  | addrLine i => rw [hdrv] at h; exact shows_addrDir h .output
  | dataLine i => rw [hdrv] at h; exact shows_dataDir h .output
  | generic g =>
    rw [hdrv] at h
    simpa [ShowsOn, Driver.dataBus, Driver.addrBus, Driver.lineOn, hb.generic hdrv] using shows_ctlDir h g .output
  | writeOnly g =>
    rw [hdrv] at h
    simpa [ShowsOn, Driver.dataBus, Driver.addrBus, Driver.lineOn, hb.writeOnly hdrv] using shows_ctlWrite h g true

theorem driveSecond_on (h : ShowsOn s.pins (driverOf s.seq.posk) base 1) :
    ShowsOn (driveSecond s.seq.posk s).pins (driverOf s.seq.posk) base 2 := by
  unfold driveSecond
  cases hdrv : driverOf s.seq.posk with
  | addrLine i => rw [hdrv] at h; exact shows_addrWrite h _
  | dataLine i => rw [hdrv] at h; exact shows_dataWrite h (shiftLeft_setWidth i)
  | generic g =>
    rw [hdrv] at h
    simpa [ShowsOn, Driver.dataBus, Driver.addrBus, Driver.lineOn] using shows_ctlWrite h g true
  | writeOnly g => rwa [hdrv] at h

theorem releaseFirst_on (h : ShowsOn s.pins (driverOf s.seq.posk) base 33) :
    ShowsOn (releaseFirst s.seq.posk s).pins (driverOf s.seq.posk) base (if twoStep s.seq.posk then 34 else 35) := by
  unfold releaseFirst twoStep
  cases hdrv : driverOf s.seq.posk with
  | addrLine i => rw [hdrv] at h; exact shows_addrWrite h _
  | dataLine i => rw [hdrv] at h; exact shows_dataWrite h rfl
  | generic g =>
    rw [hdrv] at h
    simpa [ShowsOn, Driver.dataBus, Driver.addrBus, Driver.lineOn] using shows_ctlWrite h g false
  | writeOnly g =>
    rw [hdrv] at h
    simpa [ShowsOn, Driver.dataBus, Driver.addrBus, Driver.lineOn] using shows_ctlWrite h g false

theorem releaseSecond_on (hb : BaseLegal base) (h : ShowsOn s.pins (driverOf s.seq.posk) base 34) :
    ShowsOn (releaseSecond s.seq.posk s).pins (driverOf s.seq.posk) base 35 := by
  unfold releaseSecond
  cases hdrv : driverOf s.seq.posk with
  | addrLine i => rw [hdrv] at h; exact shows_addrDir h .input
  | dataLine i => rw [hdrv] at h; exact shows_dataDir h .input
  | generic g =>
    rw [hdrv] at h
    have hg : Function.update base g ⟨.input, false⟩ = base := by rw [← hb.generic hdrv, Function.update_eq_self]
    simpa [ShowsOn, Driver.dataBus, Driver.addrBus, Driver.lineOn, hg] using shows_ctlDir h g .input
  | writeOnly g => rwa [hdrv] at h

end

/-! ### From position to position -/

/-- R185: once a position is over, its lines are at rest again, a write-only one inactive. -/
def Driver.after (d : Driver) (base : Sig → LineState) : Sig → LineState :=
  match d with
  | .writeOnly g => Function.update base g ⟨.output, false⟩
  | _ => base

/-- The write-only signals at the first `n` positions of the list have been set inactive. -/
def Visited (n : Nat) (base : Sig → LineState) : Prop :=
  ∀ j, j < n → ∀ g, driverOf (drivable.getD j 36) = .writeOnly g → base g = ⟨.output, false⟩

section
variable {base : Sig → LineState} {p : Pins} {d : Driver}

theorem showsOn_start : ShowsOn p d base 0 ↔ Shows p idleBus idleBus base := by
  cases d <;> rfl

theorem showsOn_end {op : Nat} (hop : 35 ≤ op) : ShowsOn p d base op ↔ Shows p idleBus idleBus (d.after base) := by
  have h1 : ¬ (1 ≤ op ∧ op ≤ 34) := by omega
  have h2 : op ≠ 0 ∧ ¬ op ≤ 33 := by omega
  cases d <;> simp [ShowsOn, Driver.dataBus, Driver.addrBus, Driver.lineOn, Driver.after, lineBus, h1, h2]

theorem BaseLegal.after (hb : BaseLegal base) (k : Nat) : BaseLegal ((driverOf k).after base) := by
  cases hdrv : driverOf k with
  | addrLine i | dataLine i | generic g => exact hb
  | writeOnly g =>
    have hdir : ∀ g', (base g').dir = .output → ((Function.update base g ⟨.output, false⟩) g').dir = .output := by
      intro g' hg'
      by_cases he : g' = g
      · rw [he, Function.update_self]
      · rwa [Function.update_of_ne he]
    refine ⟨fun g' hg' => ?_, hdir _ hb.2.1, hdir _ hb.2.2⟩
    have hne : g' ≠ g := by
      rintro rfl
      obtain rfl | rfl := (driverOf_signal k).2 _ hdrv <;> exact absurd hg' (by decide)
    exact (Function.update_of_ne hne ..).trans (hb.1 g' hg')

theorem Visited.after {n : Nat} (h : Visited n base) :
    Visited (n + 1) ((driverOf (drivable.getD n 36)).after base) := by
  intro j hj g hg
  obtain hlt | rfl : j < n ∨ j = n := by omega
  · have hold := h j hlt g hg
    cases hdrv : driverOf (drivable.getD n 36) with
    | addrLine i | dataLine i | generic g' => exact hold
    | writeOnly g' =>
      by_cases he : g = g'
      · rw [he]; exact Function.update_self ..
      · exact (Function.update_of_ne he ..).trans hold
  · rw [hg]
    exact Function.update_self ..

/-- R184: after the last position both write-only signals are inactive. -/
theorem Visited.all {n : Nat} (h : Visited n base) (hn : 33 ≤ n) :
    base .int = ⟨.output, false⟩ ∧ base .wait = ⟨.output, false⟩ :=
  ⟨h 31 (by omega) .int rfl, h 32 (by omega) .wait rfl⟩

end

/-! ### The detector -/

/-- The pins during `CROSSTALK`, from lines on which the test of the control set has left its signals. -/
def Detecting (s : State) : Prop :=
  ∃ base, BaseLegal base ∧ Visited (s.seq.phase - 1) base ∧
    if s.seq.phase = 0 then Shows s.pins idleBus idleBus base
    else s.seq.posk = drivable.getD (s.seq.phase - 1) 36 ∧ ShowsOn s.pins (driverOf s.seq.posk) base s.seq.op

/-- R33: the pins are quiescent, `TEST` and the read-only lines apart. -/
def AtRest (p : Pins) : Prop :=
  ∃ base, BaseLegal base ∧ base .int = ⟨.output, false⟩ ∧ base .wait = ⟨.output, false⟩ ∧
    Shows p idleBus idleBus base

section
variable {s : State}

theorem visited_zero (base : Sig → LineState) : Visited 0 base := fun _ h => absurd h (Nat.not_lt_zero _)

theorem detecting_prologue {base : Sig → LineState} {t : State} (hphase : t.seq.phase = 0) (hb : BaseLegal base)
    (hpins : Shows t.pins idleBus idleBus base) : Detecting t := by
  refine ⟨base, hb, ?_, ?_⟩
  · rw [hphase]; exact visited_zero base
  · rwa [if_pos hphase]

/-- Into the next position of the list, the lines at rest. -/
theorem detecting_enterPosition {base : Sig → LineState} {t : State} {j : Nat} (hb : BaseLegal base)
    (hvisited : Visited j base) (hpins : Shows t.pins idleBus idleBus base) : Detecting (enterPosition j t) := by
  refine ⟨base, hb, hvisited, ?_⟩
  rw [if_neg (show (enterPosition j t).seq.phase ≠ 0 from Nat.succ_ne_zero j)]
  exact ⟨rfl, showsOn_start.mpr hpins⟩

theorem xtPrologue_detecting (hp : s.seq.phase = 0) (h : Detecting s) : Detecting (xtPrologue s) := by
  obtain ⟨base, hb, -, hpins⟩ := h
  rw [if_pos hp] at hpins
  unfold xtPrologue
  split
  · exact detecting_prologue (by simpa using hp) hb (by simpa using hpins)
  split
  · exact detecting_prologue (by simpa using hp) hb (by simpa using hpins)
  · exact detecting_enterPosition hb (visited_zero base) hpins

theorem xtPosition_detecting (top : Bool) (hp : s.seq.phase ≠ 0) (hcancel : s.cancelReq = false) (h : Detecting s) :
    (xtPosition top s).Comes Detecting (fun t => AtRest t.pins) fun _ => False := by
  obtain ⟨base, hb, hvisited, hpins⟩ := h
  rw [if_neg hp] at hpins
  obtain ⟨hposk, hpins⟩ := hpins
  have hgo {u : State} {o : Nat} (hu : u.seq = s.seq) (hu' : ShowsOn u.pins (driverOf s.seq.posk) base o) :
      Detecting (u.gotoOp o) := by
    refine ⟨base, hb, by simpa [hu] using hvisited, ?_⟩
    rw [if_neg (by simpa [hu] using hp)]
    exact ⟨by simpa [hu] using hposk, by simpa [hu] using hu'⟩
  have hstay {u : State} {o : Nat} (hu : u.seq = s.seq ∧ u.pins = s.pins) (hop : 2 ≤ s.seq.op ∧ s.seq.op ≤ 33)
      (ho : 2 ≤ o ∧ o ≤ 33) : Detecting (u.gotoOp o) := hgo hu.1 (hu.2.symm ▸ hpins.driven hop ho)
  have hconfirm {u : State} (hu : u.seq = { s.seq with sample := u.seq.sample } ∧ u.pins = s.pins)
      (hop : 2 ≤ s.seq.op ∧ s.seq.op ≤ 33) : Detecting (u.gotoOp 18) := by
    obtain ⟨hseq, hsame⟩ := hu
    have hplace : u.seq.phase = s.seq.phase ∧ u.seq.posk = s.seq.posk := by rw [hseq]; exact ⟨rfl, rfl⟩
    refine ⟨base, hb, by simpa [hplace] using hvisited, ?_⟩
    rw [if_neg (by simpa [hplace] using hp)]
    exact ⟨by simpa [hplace] using hposk, by simpa [hplace, hsame] using hpins.driven (op' := 18) hop (by omega)⟩
  generalize hr : xtPosition top s = r
  have hstep : XtStep s top r := hr ▸ xtPosition_step s top
  cases hstep with
  | cancel hop => simp [xtPosition, hop, hcancel] at hr
  | driveFirst hop => exact hgo (by simp) (driveFirst_on hb (hop ▸ hpins))
  | driveSecond hop => exact hgo (by simp) (driveSecond_on (hop ▸ hpins))
  | settle hop => exact hstay (by simp) (by omega) (by omega)
  | read hop =>
    by_cases hlast : 2 ≤ s.seq.op + 1 ∧ s.seq.op + 1 ≤ 33
    · exact hstay (by simp) (by omega) hlast
    · omega
  | trigger hop =>
    unfold xtTrigger
    dsimp only
    split
    · exact hstay (by simp) (by omega) (by omega)
    · exact hconfirm (by simp) (by omega)
  | wait hop => exact hstay (by simp) (by omega) (by omega)
  | decide hop => exact hstay (by split <;> simp) (by omega) (by omega)
  | sampleRead hop => exact hstay (by simp) (by omega) (by omega)
  | sample hop => exact hconfirm (by simp) (by omega)
  | releaseFirst hop => exact hgo (by simp) (releaseFirst_on (hop ▸ hpins))
  | releaseSecond hop => exact hgo (by simp) (releaseSecond_on hb (hop ▸ hpins))
  | next hop =>
    rw [showsOn_end hop] at hpins
    have hafter := hvisited.after
    rw [← hposk, Nat.sub_add_cancel (Nat.one_le_iff_ne_zero.mpr hp)] at hafter
    unfold xtNext Config.drivableCount
    split
    · exact detecting_enterPosition (hb.after s.seq.posk) hafter (by simpa using hpins)
    · obtain ⟨hint, hwait⟩ := hafter.all (by omega)
      exact ⟨_, hb.after s.seq.posk, hint, hwait, by simpa using hpins⟩

theorem crosstalkBody_detecting (top : Bool) (hcancel : s.cancelReq = false) (h : Detecting s) :
    (crosstalkBody top s).Comes Detecting (fun t => AtRest t.pins) fun _ => False := by
  unfold crosstalkBody
  split
  case h_1 hp => exact xtPrologue_detecting hp h
  case h_2 hp => exact xtPosition_detecting top (by omega) hcancel h

end

/-! ### Between the stages -/

/-- The pins as the tests of the buses and of the control set leave them are a start for the detector. -/
theorem detecting_start {s : State} (hphase : s.seq.phase = 0) (hdata : DataRest s.pins) (haddr : AddrRest s.pins)
    (hctrl : CtrlRest s.pins) : Detecting s := by
  obtain ⟨houts, hdirs, hint, hwait⟩ := hctrl
  refine detecting_prologue (base := fun g => ⟨s.pins.dirOf g, s.pins.outOf g⟩) hphase ⟨fun g hg => ?_, hint, hwait⟩
    ⟨⟨hdata.1, hdata.2, haddr.1, haddr.2⟩, fun g => ⟨rfl, rfl⟩⟩
  simp [hdirs g (by omega), houts g (by omega)]

/-- R33: every line of a quiescent chip, `TEST` and the read-only lines apart. -/
theorem AtRest.line {p : Pins} (h : AtRest p) {g : Sig} (htest : g ≠ .test) (hres : g ≠ .sysRes) (hack : g ≠ .intAck) :
    p.outOf g = false ∧ p.dirOf g = if g = .int ∨ g = .wait then .output else .input := by
  obtain ⟨base, ⟨hgeneric, -⟩, hint, hwait, -, hlines⟩ := h
  obtain ⟨hdir, hout⟩ := hlines g
  rw [hdir, hout]
  cases g with
  | test | sysRes | intAck => contradiction
  | int => rw [hint]; exact ⟨rfl, rfl⟩
  | wait => rw [hwait]; exact ⟨rfl, rfl⟩
  | _ => rw [hgeneric _ (by decide)]; exact ⟨rfl, rfl⟩

theorem AtRest.buses {p : Pins} (h : AtRest p) : DataRest p ∧ AddrRest p := by
  obtain ⟨-, -, -, -, ⟨hdata, hdataOut, haddr, haddrOut⟩, -⟩ := h
  exact ⟨⟨hdata, hdataOut⟩, haddr, haddrOut⟩

/-- A step of `ACTIVATE` or `DEACTIVATE` leaves every line but `TEST`. -/
theorem AtRest.testStep {p q : Pins} (h : AtRest p) (hstep : PinStep testLines p q) : AtRest q := by
  obtain ⟨base, ⟨hgeneric, hb⟩, hint, hwait, hbuses, hlines⟩ := h
  refine ⟨Function.update base .test ⟨q.dirOf .test, q.outOf .test⟩, ⟨fun g hg => ?_, hb⟩, hint, hwait, ?_, fun g => ?_⟩
  · have hne : g ≠ .test := by rintro rfl; exact absurd hg (by decide)
    rw [Function.update_of_ne hne]
    exact hgeneric g hg
  · rw [hstep.eq_of_sig id id]
    exact hbuses
  · by_cases hg : g = .test
    · subst hg
      rw [Function.update_self]
      exact ⟨rfl, rfl⟩
    · obtain ⟨hdir, hout⟩ := hstep.keeps_line (g := g) hg
      rw [Function.update_of_ne hg]
      exact ⟨hdir.trans (hlines g).1, hout.trans (hlines g).2⟩

end Sys2Proof.Machine
end

section
/-! The two ends of a `FULLPASS` (R330, R331): the answers of the environment in order, and what the activation and
the deactivation make of them. -/

namespace Sys2Proof.Machine
open Sys2Proof

/-! ### The answers in order (R96) -/

/-- `s` has been reached from `s₀` by reads that took their answers in order. -/
def ReadFrom (s₀ s : State) : Prop :=
  s₀.answered ≤ s.answered ∧ s.answers = s₀.answers.drop (s.answered - s₀.answered)

theorem readFrom_refl (s : State) : ReadFrom s s := ⟨le_rfl, by simp⟩

theorem ReadFrom.step {s₀ s t : State} (h : ReadFrom s₀ s) (hio : IoStep s.io t.io) : ReadFrom s₀ t := by
  obtain ⟨hle, hdrop⟩ := h
  obtain ⟨hanswers, hanswered⟩ | ⟨hanswers, hanswered⟩ := hio.parts.2
  · change t.answers = s.answers at hanswers
    change t.answered = s.answered at hanswered
    exact ⟨hanswered ▸ hle, by rw [hanswers, hanswered, hdrop]⟩
  · change t.answers = s.answers.tail at hanswers
    change t.answered = s.answered + 1 at hanswered
    refine ⟨by omega, ?_⟩
    rw [hanswers, hanswered, hdrop, List.tail_drop, Nat.succ_sub hle]

theorem ReadFrom.answer_eq {s₀ s : State} (h : ReadFrom s₀ s) {k : ℕ} (hk : s.answered = s₀.answered + k) :
    s.answer = Spec.answerAt s₀ k := by
  have hdrop := h.2
  rw [hk, Nat.add_sub_cancel_left] at hdrop
  unfold State.answer Spec.answerAt
  rw [hdrop, hk]
  cases hget : s₀.answers[k]? with
  | none => rw [List.drop_of_length_le (List.getElem?_eq_none_iff.mp hget)]; rfl
  | some a =>
    obtain ⟨hlt, rfl⟩ := List.getElem?_eq_some_iff.mp hget
    rw [List.drop_eq_getElem_cons hlt]
    rfl

/-! ### The samples of a confirmation loop (R14) -/

/-- How many of the `n` answers from the `m`-th on count as hits. -/
def hitsAt (hit : Bool → Bool) (s₀ : State) (m n : ℕ) : ℕ :=
  (List.range n).countP fun k => hit ((Spec.answerAt s₀ (m + k)).getLsbD 0)

theorem hitsAt_succ (hit : Bool → Bool) (s₀ : State) (m n : ℕ) :
    hitsAt hit s₀ m (n + 1) = hitsAt hit s₀ m n + if hit ((Spec.answerAt s₀ (m + n)).getLsbD 0) then 1 else 0 := by
  simp [hitsAt, List.range_succ, List.countP_append, List.countP_singleton]

theorem hitsAt_le (hit : Bool → Bool) (s₀ : State) (m n : ℕ) : hitsAt hit s₀ m n ≤ n :=
  List.countP_le_length.trans_eq List.length_range

/-- R14, R213: enough of the `CFG_CONFIRM_LOOPS` answers from the `m`-th on are hits. -/
def Enough (hit : Bool → Bool) (s₀ : State) (m : ℕ) : Prop :=
  s₀.cfg.actPct.toNat * s₀.cfg.confirmLoops.toNat ≤ hitsAt hit s₀ m s₀.cfg.confirmLoops.toNat * 100

/-- The confirmation loop whose first sample is the `m`-th answer has taken `SAMPLE` samples. -/
structure Sampled (hit : Bool → Bool) (s₀ : State) (m : ℕ) (s : State) : Prop where
  answered : s.answered = s₀.answered + m + s.seq.sample
  hits : s.work.hits.toNat = hitsAt hit s₀ m s.seq.sample
  bound : s.seq.sample ≤ s₀.cfg.confirmLoops.toNat

section
variable {hit : Bool → Bool} {s₀ s : State} {m : ℕ}

theorem sampled_start {t : State} (hanswered : t.answered = s₀.answered + m) (hsample : t.seq.sample = 0)
    (hhits : t.work.hits = 0#16) : Sampled hit s₀ m t :=
  ⟨by omega, by rw [hsample, hhits]; rfl, by omega⟩

theorem Sampled.of_eq {t : State} (h : Sampled hit s₀ m s) (hanswered : t.answered = s.answered)
    (hsample : t.seq.sample = s.seq.sample) (hwork : t.work = s.work) : Sampled hit s₀ m t :=
  ⟨by rw [hanswered, hsample]; exact h.answered, by rw [hwork, hsample]; exact h.hits, hsample ▸ h.bound⟩

/-- R14: one more sample, counted if it is a hit. -/
theorem Sampled.count (h : Sampled hit s₀ m s) (hread : ReadFrom s₀ s)
    (hmore : s.seq.sample < s₀.cfg.confirmLoops.toNat) (o : Nat) :
    Sampled hit s₀ m ((countSample (hit (ctlRead .test s).readTrue) (ctlRead .test s)).gotoOp o) := by
  have hlevel : (ctlRead .test s).readTrue = (Spec.answerAt s₀ (m + s.seq.sample)).getLsbD 0 := by
    rw [readTrue_ctlRead, hread.answer_eq (k := m + s.seq.sample) (by rw [h.answered, Nat.add_assoc])]
  have hlt : hitsAt hit s₀ m s.seq.sample + 1 < 2 ^ 16 := by
    have := hitsAt_le hit s₀ m s.seq.sample
    have := s₀.cfg.confirmLoops.isLt
    omega
  refine ⟨?_, ?_, ?_⟩
  · simp [h.answered]; omega
  · have hhits : (ctlRead .test s).work.hits = s.work.hits := rfl
    rw [hlevel]
    simp only [State.gotoOp_work, State.gotoOp_seq, countSample_eq, ctlRead_place, hitsAt_succ, ← h.hits, hhits]
    rw [← h.hits] at hlt
    split
    · rw [BitVec.toNat_add]; exact Nat.mod_eq_of_lt hlt
    · rfl
  · simpa using hmore

/-- R14: the loop over, its decision is about the answers. -/
theorem Sampled.confirmed_iff (h : Sampled hit s₀ m s) (hcfg : s.cfg = s₀.cfg) (hlast : s.sampling = false) :
    s.answered = s₀.answered + m + s₀.cfg.confirmLoops.toNat ∧
      (s.confirmed s.cfg.actPct = true ↔ Enough hit s₀ m) := by
  have hsample : s.seq.sample = s₀.cfg.confirmLoops.toNat := by
    have hnot := mt (sampling_iff s).mpr (by simp [hlast])
    have := h.bound
    rw [hcfg] at hnot
    omega
  refine ⟨hsample ▸ h.answered, ?_⟩
  rw [Machine.confirmed_iff, h.hits, hsample, hcfg, Enough]

end

/-! ### The activation (R212) -/

/-- R212: where stage 1 stands, in terms of the answers since `s₀`. -/
inductive Activating (s₀ s : State) : Prop
  | release (hop : s.seq.op = 0) (hanswered : s.answered = s₀.answered) (htrace : s.trace = s₀.trace)
  | read (hop : s.seq.op = 1) (hanswered : s.answered = s₀.answered)
      (htrace : s.trace = .ctlDir .test .input :: s₀.trace)
  | check (hop : s.seq.op = 2) (hanswered : s.answered = s₀.answered + 1)
      (hlevel : s.readTrue = (Spec.answerAt s₀ 0).getLsbD 0)
      (htrace : s.trace = [.ctlRead .test ((Spec.answerAt s₀ 0).getLsbD 0), .ctlDir .test .input] ++ s₀.trace)
  | drive (hop : s.seq.op = 3) (hanswered : s.answered = s₀.answered + 1)
      (hfirst : (Spec.answerAt s₀ 0).getLsbD 0 = false) (htest : s.pins.dirOf .test = .output)
  | turn (hop : s.seq.op = 4) (hsampled : Sampled id s₀ 1 s) (hfirst : (Spec.answerAt s₀ 0).getLsbD 0 = false)
      (htest : s.pins.dirOf .test = .output)
  | sample (hop : 5 ≤ s.seq.op) (hsampled : Sampled id s₀ 1 s) (hfirst : (Spec.answerAt s₀ 0).getLsbD 0 = false)
      (htest : s.pins.dirOf .test = .output) (hmore : s.seq.sample < s₀.cfg.confirmLoops.toNat)

/-- R212: the activation has been confirmed. -/
structure Activated (s₀ t : State) : Prop where
  free : (Spec.answerAt s₀ 0).getLsbD 0 = false
  enough : Enough id s₀ 1
  answered : t.answered = s₀.answered + 1 + s₀.cfg.confirmLoops.toNat
  test : t.pins.dirOf .test = .output

/-- R331: the activation has failed. -/
inductive NotActivated (s₀ t : State) : Prop
  | active (hfirst : (Spec.answerAt s₀ 0).getLsbD 0 = true) (hfatal : t.fatal = .alreadyActive)
      (htrace : t.trace = [.ctlRead .test true, .ctlDir .test .input] ++ s₀.trace)
  | few (hfirst : (Spec.answerAt s₀ 0).getLsbD 0 = false) (hfatal : t.fatal = .activateFailed)
      (hfew : ¬ Enough id s₀ 1) (hanswered : t.answered = s₀.answered + 1 + s₀.cfg.confirmLoops.toNat)

section
variable {s₀ s : State} (hcfg : s.cfg = s₀.cfg) (hread : ReadFrom s₀ s)
include hcfg hread

theorem activateBody_activating (h : Activating s₀ s) :
    (activateBody s).Comes (Activating s₀) (Activated s₀) (NotActivated s₀) := by
  unfold activateBody
  cases h with
  | release hop hanswered htrace =>
    rw [hop]
    exact Activating.read rfl (by simpa using hanswered) (congrArg (_ :: ·) htrace)
  | read hop hanswered htrace =>
    have hanswer := hread.answer_eq (k := 0) hanswered
    rw [hop]
    refine Activating.check rfl (by simp [hanswered]) ?_ ?_
    · exact (readTrue_ctlRead .test s).trans (by rw [hanswer])
    · rw [← hanswer]
      exact congrArg (_ :: ·) htrace
  | check hop hanswered hlevel htrace =>
    simp only [hop]
    split
    case isTrue hactive =>
      rw [hactive] at hlevel
      exact NotActivated.active hlevel.symm rfl (htrace.trans (by rw [← hlevel]))
    case isFalse hfree =>
      rw [Bool.not_eq_true] at hfree
      exact Activating.drive rfl (by simpa using hanswered) (hlevel.symm.trans hfree) (by simp [dirOf_ctlDir])
  | drive hop hanswered hfirst htest =>
    rw [hop]
    have hstart := sampled_start (hit := id) (t := (startConfirm (ctlWrite .test true s)).gotoOp 4)
      (by simpa using hanswered) (by simp) (by simp [startConfirm_eq])
    exact Activating.turn rfl hstart hfirst (by simpa using htest)
  | turn hop hsampled hfirst htest =>
    simp only [hop]
    split
    case isTrue hmore =>
      rw [sampling_iff, hcfg] at hmore
      exact Activating.sample le_rfl (hsampled.of_eq (by simp) (by simp) (by simp)) hfirst (by simpa using htest)
        (by simpa using hmore)
    case isFalse hlast =>
      obtain ⟨hanswered, henough⟩ := hsampled.confirmed_iff hcfg (Bool.eq_false_iff.mpr hlast)
      split
      case isTrue hyes => exact ⟨hfirst, henough.mp hyes, by simpa using hanswered, by simpa using htest⟩
      case isFalse hno => exact NotActivated.few hfirst rfl (mt henough.mpr hno) (by simpa using hanswered)
  | sample hop hsampled hfirst htest hmore =>
    split
    case h_6 => exact Activating.turn rfl (hsampled.count hread hmore 4) hfirst (by simpa using htest)
    all_goals omega

end

/-! ### The deactivation (R215) -/

/-- R215: where stage 7 stands, in terms of the answers since `s₀`; `m` answers have been used before it. -/
inductive DeactivatingFrom (s₀ : State) (m : ℕ) (s : State) : Prop
  | drive (hop : s.seq.op = 0) (hanswered : s.answered = s₀.answered + m) (hdir : s.pins.dirOf .test = .output)
  | turn (hop : s.seq.op = 1) (hsampled : Sampled not s₀ m s) (hdir : s.pins.dirOf .test = .output)
      (hout : s.pins.outOf .test = false)
  | sample (hop : s.seq.op = 2) (hsampled : Sampled not s₀ m s) (hdir : s.pins.dirOf .test = .output)
      (hout : s.pins.outOf .test = false) (hmore : s.seq.sample < s₀.cfg.confirmLoops.toNat)
  | release (hop : 3 ≤ s.seq.op) (hanswered : s.answered = s₀.answered + m + s₀.cfg.confirmLoops.toNat)
      (hdir : s.pins.dirOf .test = .input) (hout : s.pins.outOf .test = false) (henough : Enough not s₀ m)

/-- R215: the deactivation has been confirmed, and `TEST` released. -/
structure DeactivatedFrom (s₀ : State) (m : ℕ) (t : State) : Prop where
  answered : t.answered = s₀.answered + m + s₀.cfg.confirmLoops.toNat
  enough : Enough not s₀ m
  test : t.pins.dirOf .test = .input ∧ t.pins.outOf .test = false

/-- R331: the deactivation has failed, `TEST` still driven inactive. -/
structure NotDeactivatedFrom (s₀ : State) (m : ℕ) (t : State) : Prop where
  answered : t.answered = s₀.answered + m + s₀.cfg.confirmLoops.toNat
  few : ¬ Enough not s₀ m
  test : t.pins.dirOf .test = .output ∧ t.pins.outOf .test = false
  fatal : t.fatal = .deactivateFailed

section
variable {s₀ s : State} {m : ℕ} (hcfg : s.cfg = s₀.cfg) (hread : ReadFrom s₀ s)
include hcfg hread

theorem deactivateBody_deactivating (h : DeactivatingFrom s₀ m s) :
    (deactivateBody s).Comes (DeactivatingFrom s₀ m) (DeactivatedFrom s₀ m) (NotDeactivatedFrom s₀ m) := by
  unfold deactivateBody
  cases h with
  | drive hop hanswered hdir =>
    rw [hop]
    have hstart := sampled_start (hit := not) (t := (startConfirm (ctlWrite .test false s)).gotoOp 1)
      (by simpa using hanswered) (by simp) (by simp [startConfirm_eq])
    exact DeactivatingFrom.turn rfl hstart (by simpa using hdir) (by simp [outOf_ctlWrite])
  | turn hop hsampled hdir hout =>
    simp only [hop]
    split
    case isTrue hmore =>
      rw [sampling_iff, hcfg] at hmore
      exact DeactivatingFrom.sample rfl (hsampled.of_eq (by simp) (by simp) (by simp)) (by simpa using hdir)
        (by simpa using hout) (by simpa using hmore)
    case isFalse hlast =>
      obtain ⟨hanswered, henough⟩ := hsampled.confirmed_iff hcfg (Bool.eq_false_iff.mpr hlast)
      split
      case isTrue hyes =>
        exact DeactivatingFrom.release le_rfl (by simpa using hanswered) (by simp [dirOf_ctlDir]) (by simpa using hout)
          (henough.mp hyes)
      case isFalse hno => exact ⟨by simpa using hanswered, mt henough.mpr hno, ⟨hdir, hout⟩, rfl⟩
  | sample hop hsampled hdir hout hmore =>
    rw [hop]
    exact DeactivatingFrom.turn rfl (hsampled.count hread hmore 1) (by simpa using hdir) (by simpa using hout)
  | release hop hanswered hdir hout henough =>
    split
    case h_4 => exact ⟨by simpa using hanswered, henough, by simpa using hdir, by simpa using hout⟩
    all_goals omega

end

end Sys2Proof.Machine
end

section
/-! The stages of a `FULLPASS` (R330): what a step of each keeps, and what each hands to the next. -/

namespace Sys2Proof.Machine
open Sys2Proof

/-! ### What a step of any stage leaves -/

/-- The stages before the deactivation, from 2 on, run the tests. -/
def TestStage (st : Nat) : Prop := 2 ≤ st ∧ st ≤ 6

/-- R330: no stage writes the snapshot. -/
theorem stageBody_snap {s : State} (hst : s.seq.stage ≠ 0) :
    (stageBody s.seq.stage s).state.res.snap = s.res.snap := by
  have hbus (b : Bus) : (verifyBusBody b false s).state.res.snap = s.res.snap := by
    obtain hres | ⟨high, low, hres⟩ := verifyBusBody_res s false b <;> rw [hres]
    cases b <;> rfl
  rw [stageBody_eq_bodyIn hst]
  unfold stageCommand
  split
  case h_1 h0 => exact absurd h0 hst
  case h_2 => exact congrArg Results.snap (activateBody_res s)
  case h_3 => exact hbus .data
  case h_4 => exact hbus .address
  case h_5 =>
    change (verifyCtrlBody false s).state.res.snap = _
    obtain hres | ⟨high, low, hres⟩ := verifyCtrlBody_res s false <;> rw [hres]
    rfl
  case h_6 =>
    change (crosstalkBody false s).state.res.snap = _
    obtain hres | ⟨src, dst, hres⟩ | hres := crosstalkBody_res s false <;> rw [hres]
    rfl
  case h_7 =>
    have hbuses : (suiteBody false s).state.res.buses.snap = s.res.buses.snap :=
      congrArg Results.snap (suiteBody_buses s false)
    exact hbuses
  case h_8 => exact congrArg Results.snap (deactivateBody_res s)

/-- R336: no stage writes `PROGRESS`. -/
theorem stageBody_progress {s : State} (hst : s.seq.stage ≠ 0) :
    (stageBody s.seq.stage s).state.progress = s.progress := by
  rw [stageBody_inside hst]
  cases bodyIn true (stageCommand s.seq.stage) s <;> rfl

theorem stageBody_stage {s : State} (hst : s.seq.stage ≠ 0) :
    (stageBody s.seq.stage s).state.seq.stage = s.seq.stage := by
  rw [stageBody_eq_bodyIn hst]
  exact primitive_stage (stageCommand_ne_fullpass _) false s

theorem stageBody_io {s : State} (hst : s.seq.stage ≠ 0) : IoStep s.io (stageBody s.seq.stage s).state.io := by
  rw [stageBody_eq_bodyIn hst]
  exact (primitive_envFramed (stageCommand_ne_fullpass _) false s).2

theorem verifyBusBody_not_cancelled (b : Bus) (top : Bool) (s t : State) : verifyBusBody b top s ≠ .cancelled t := by
  unfold verifyBusBody verifyCleanup
  split
  case h_5 => split <;> simp
  all_goals simp

/-- R332: without a cancel request no stage is cancelled. -/
theorem stageBody_not_cancelled {s : State} (hcancel : s.cancelReq = false) (t : State) :
    stageBody s.seq.stage s ≠ .cancelled t := by
  unfold stageBody
  split
  case h_1 =>
    unfold activateBody
    split
    case h_3 => split <;> simp
    case h_5 => split_ifs <;> simp
    all_goals simp
  case h_2 => exact verifyBusBody_not_cancelled .data false s t
  case h_3 => exact verifyBusBody_not_cancelled .address false s t
  case h_4 =>
    unfold verifyCtrlBody ctrlCleanup
    split
    case h_5 => split <;> simp
    all_goals simp
  case h_5 =>
    unfold crosstalkBody
    split
    · simp
    · generalize hr : xtPosition false s = r
      have hstep : XtStep s false r := hr ▸ xtPosition_step s false
      cases hstep with
      | cancel hop => simp [xtPosition, hop, hcancel] at hr
      | next => unfold xtNext; split <;> simp
      | _ => simp
  case h_6 => exact suiteBody_not_cancelled false hcancel t
  case h_7 => exact deactivateBody_not_cancelled s t

/-! ### The answers the stages use (R329, R410) -/

/-- The answers the running test still uses. -/
def stageReads (s : State) : ℕ :=
  match s.seq.stage with
  | 2 => busReads .data s
  | 3 => busReads .address s
  | 4 => ctrlReads s
  | 5 => crosstalkReads s
  | 6 => suiteReads s
  | _ => 0

/-- The answers the suite uses. -/
def suiteTotal (c : Cfg) (r : Region) : ℕ := (53 + 2 * c.rdReads.toNat) * r.length.toNat

/-- The answers the tests from stage `st` on use. -/
def readsFrom (c : Cfg) (r : Region) (st : ℕ) : ℕ :=
  match st with
  | 2 => 498 + 493 * c.confirmLoops.toNat + suiteTotal c r
  | 3 => 496 + 485 * c.confirmLoops.toNat + suiteTotal c r
  | 4 => 494 + 469 * c.confirmLoops.toNat + suiteTotal c r
  | 5 => 476 + 462 * c.confirmLoops.toNat + suiteTotal c r
  | 6 => suiteTotal c r
  | _ => 0

theorem stageReads_start {st : ℕ} (hst : TestStage st) (u : State) :
    stageReads (enterStage st u) + readsFrom u.cfg u.region (st + 1) = readsFrom u.cfg u.region st := by
  have hcfg : (enterStage st u).cfg = u.cfg ∧ (enterStage st u).region = u.region := ⟨rfl, rfl⟩
  obtain ⟨h2, h6⟩ := hst
  interval_cases st <;> simp only [stageReads, readsFrom, enterStage_frame, Seq.start]
  · simp [busReads, Bus.width, hcfg, Seq.start]; omega
  · simp [busReads, Bus.width, hcfg, Seq.start]; omega
  · simp [ctrlReads, hcfg, Seq.start]; omega
  · simp [crosstalkReads, snapshots, hcfg, Seq.start]; omega
  · simp [suiteReads, callsReads_suiteTable, suiteTotal, hcfg, Seq.start]

theorem stageBody_keepsTo {s : State} (hst : TestStage s.seq.stage) :
    (stageBody s.seq.stage s).Comes (Spends stageReads s) (Spent stageReads s) fun _ => True := by
  have hstage := stageBody_stage (s := s) (by have := hst.1; omega)
  have hlift {left : State → ℕ} (hleft : ∀ t : State, t.seq.stage = s.seq.stage → stageReads t = left t)
      (hbody : (stageBody s.seq.stage s).Comes (Spends left s) (Spent left s) fun _ => True) :
      (stageBody s.seq.stage s).Comes (Spends stageReads s) (Spent stageReads s) fun _ => True := by
    refine ((comes_self (P := fun t => t.seq.stage = s.seq.stage) hstage).and hbody).mono ?_ ?_ fun _ _ => trivial
    · rintro t ⟨ht, hreads, hflag⟩
      exact ⟨by rw [hleft t ht, hleft s rfl]; exact hreads, hflag⟩
    · rintro t ⟨ht, hreads, hflag⟩
      exact ⟨by rw [hleft s rfl]; exact hreads, hflag⟩
  obtain ⟨h2, h6⟩ := hst
  generalize hk : s.seq.stage = k at h2 h6 hlift ⊢
  interval_cases k
  · exact hlift (fun t ht => by simp only [stageReads, ht]) (verifyBusBody_keepsTo .data false s)
  · exact hlift (fun t ht => by simp only [stageReads, ht]) (verifyBusBody_keepsTo .address false s)
  · exact hlift (fun t ht => by simp only [stageReads, ht]) (verifyCtrlBody_keepsTo false s)
  · exact hlift (fun t ht => by simp only [stageReads, ht]) (crosstalkBody_keepsTo false s)
  · exact hlift (fun t ht => by simp only [stageReads, ht]) (suiteBody_keepsTo false s)

/-! ### The pins and the log the tests keep -/

/-- What the tests have put at rest before stage `STAGE`, and in it; in stage 6 what the log holds. -/
def StageKeeps (s : State) : Prop :=
  match s.seq.stage with
  | 2 => BusReleasing .data s
  | 3 => DataRest s.pins ∧ BusReleasing .address s
  | 4 => DataRest s.pins ∧ AddrRest s.pins ∧ CtrlReleasing s
  | 5 => Detecting s
  | 6 => AtRest s.pins ∧ InSuite s
  | _ => AtRest s.pins ∧ s.res.slogCount = 19#5

theorem stageKeeps_step {s : State} (hst : TestStage s.seq.stage) (hcancel : s.cancelReq = false) (h : StageKeeps s) :
    (stageBody s.seq.stage s).Comes StageKeeps
      (fun t => ∀ p, StageKeeps (enterStage (s.seq.stage + 1) (t.setProgress p))) fun _ => False := by
  have hstage := comes_self (P := fun t => t.seq.stage = s.seq.stage)
    (stageBody_stage (s := s) (by have := hst.1; omega))
  obtain ⟨h2, h6⟩ := hst
  unfold StageKeeps at h
  generalize hk : s.seq.stage = k at h2 h6 h hstage ⊢
  interval_cases k
  · refine (hstage.and (verifyBusBody_releasing (b := .data) false h)).mono ?_ ?_ fun _ h => h.2
    · rintro t ⟨ht, hrel⟩
      simpa only [StageKeeps, ht] using hrel
    · rintro t ⟨-, hrest⟩ p
      exact ⟨hrest, busReleasing_of_phase (.inr rfl)⟩
  · obtain ⟨hdata, hrel⟩ := h
    have hkept := comes_self (P := fun t => DataRest t.pins)
      (hdata.step (verifyBusBody_pinStep s .address false) (by simp [Bus.lines]))
    refine ((hstage.and hkept).and (verifyBusBody_releasing (b := .address) false hrel)).mono ?_ ?_ fun _ h => h.2
    · rintro t ⟨⟨ht, hdata⟩, hrel⟩
      simpa only [StageKeeps, ht] using ⟨hdata, hrel⟩
    · rintro t ⟨⟨-, hdata⟩, hrest⟩ p
      exact ⟨hdata, hrest, ctrlReleasing_of_phase (by simp [Seq.start])⟩
  · obtain ⟨hdata, haddr, hrel⟩ := h
    have hlines := verifyCtrlBody_pinStep s false
    have hkept := comes_self (P := fun t => DataRest t.pins ∧ AddrRest t.pins)
      ⟨hdata.step hlines id, haddr.step hlines id⟩
    refine ((hstage.and hkept).and (verifyCtrlBody_releasing false hrel)).mono ?_ ?_ fun _ h => h.2
    · rintro t ⟨⟨ht, hdata, haddr⟩, hrel⟩
      simpa only [StageKeeps, ht] using ⟨hdata, haddr, hrel⟩
    · rintro t ⟨⟨-, hdata, haddr⟩, hrest⟩ p
      exact detecting_start rfl hdata haddr hrest
  · refine (hstage.and (crosstalkBody_detecting false hcancel h)).mono ?_ ?_ fun _ h => h.2
    · rintro t ⟨ht, hdet⟩
      simpa only [StageKeeps, ht] using hdet
    · rintro t ⟨-, hrest⟩ p
      exact ⟨hrest, by simp [Seq.start], fun hstart => absurd ⟨rfl, rfl⟩ hstart⟩
  · obtain ⟨hrest, hin⟩ := h
    have hkept := comes_self (P := fun t => AtRest t.pins) ((suiteBody_pins false s).symm ▸ hrest)
    refine ((hstage.and hkept).and (inSuite_step false hcancel hin)).mono ?_ ?_ fun _ h => h.2
    · rintro t ⟨⟨ht, hrest⟩, hin⟩
      simpa only [StageKeeps, ht] using ⟨hrest, hin⟩
    · rintro t ⟨⟨-, hrest⟩, hend⟩ p
      exact ⟨hrest, hend.count⟩

/-- No test drives `TEST`. -/
theorem stageBody_test {s : State} (hst : TestStage s.seq.stage) :
    (stageBody s.seq.stage s).state.pins.dirOf .test = s.pins.dirOf .test := by
  have hpins := primitive_pinStep s (stageCommand_ne_fullpass s.seq.stage) false
  rw [← stageBody_eq_bodyIn (by have := hst.1; omega)] at hpins
  refine (hpins.keeps_line ?_).1
  obtain ⟨h2, h6⟩ := hst
  generalize s.seq.stage = k at h2 h6
  interval_cases k <;> simp [stageCommand, linesOf, Bus.lines, ctrlLines, xtLines, Sig.Drivable]

end Sys2Proof.Machine
end

section
/-! The steps of an undisturbed `FULLPASS` (R330, R331), from acceptance to its four ends. -/

namespace Sys2Proof.Machine
open Sys2Proof

/-! ### The frame of a stage -/

/-- R330, R336: what a step of a stage keeps, and its one operation at most. -/
structure StageKept (s t : State) : Prop where
  io : IoStep s.io t.io
  stage : t.seq.stage = s.seq.stage
  progress : t.progress = s.progress
  snap : t.res.snap = s.res.snap
  cancelling : t.work.cancelling = s.work.cancelling

theorem activateBody_cancelling (s : State) : (activateBody s).state.work.cancelling = s.work.cancelling := by
  unfold activateBody
  split
  case h_3 => split <;> simp
  case h_5 => split_ifs <;> simp
  all_goals simp

theorem deactivateBody_cancelling (s : State) : (deactivateBody s).state.work.cancelling = s.work.cancelling := by
  unfold deactivateBody
  split
  case h_2 => split_ifs <;> simp
  all_goals simp

theorem testStage_changesMode {st : ℕ} (h : TestStage st) : changesMode (stageCommand st) = false := by
  obtain ⟨h2, h6⟩ := h
  interval_cases st <;> rfl

section
variable {s : State}

theorem stageBody_cancelling (hst : s.seq.stage ≠ 0) :
    (stageBody s.seq.stage s).state.work.cancelling = s.work.cancelling := by
  by_cases htest : TestStage s.seq.stage
  · have hkeeps := stageBody_keepsTo htest
    have hfatal := bodyIn_not_fatal (testStage_changesMode htest) false s
    rw [← stageBody_eq_bodyIn hst] at hfatal
    generalize stageBody s.seq.stage s = r at hkeeps hfatal ⊢
    cases r with
    | more t | ended t | cancelled t => exact hkeeps.2
    | fatal t => exact absurd rfl (hfatal t)
  · unfold TestStage at htest
    generalize s.seq.stage = st at hst htest ⊢
    match st, hst with
    | 1, _ => exact activateBody_cancelling s
    | 2, _ | 3, _ | 4, _ | 5, _ | 6, _ => omega
    | _ + 7, _ => exact deactivateBody_cancelling s

theorem stageBody_kept (hst : s.seq.stage ≠ 0) : StageKept s (stageBody s.seq.stage s).state :=
  ⟨stageBody_io hst, stageBody_stage hst, stageBody_progress hst, stageBody_snap hst, stageBody_cancelling hst⟩

theorem stageBody_comes (hst : s.seq.stage ≠ 0) : (stageBody s.seq.stage s).Comes
    (fun t => StageKept s t ∧ t.fixed = s.fixed)
    (fun t => StageKept s t ∧ t.fixed = s.fixed.setMode (modeAfter (stageCommand s.seq.stage) s.mode))
    (fun t => StageKept s t ∧ ∃ c, t.fixed = raiseFatal c s.fixed) := by
  have hframe := primitive_comes (stageCommand_ne_fullpass s.seq.stage) false s
  rw [← stageBody_eq_bodyIn hst] at hframe
  exact (comes_self (stageBody_kept hst)).and
    (hframe.mono (fun _ h => h.1) (fun _ h => h) fun _ ⟨c, _, h⟩ => ⟨c, h⟩)

/-- R330: where a step of one of the stages 1 to 6 leads, from where the step of its command does. -/
theorem stageStep_leads_next {go out halt P Q : State → Prop} (h : (stageBody s.seq.stage s).Comes go out halt)
    (hcancel : s.cancelReq = false) (hst : s.seq.stage < 7) (hgo : ∀ t, go t → P t)
    (hout : ∀ t, out t → P (enterStage (s.seq.stage + 1) (phaseEnd true s.seq.stage 7 t))) (hhalt : ∀ t, halt t → Q t) :
    (stageStep s).Leads P Q := by
  cases hr : stageBody s.seq.stage s with
  | more t => rw [hr] at h; rw [stageStep_more hr]; exact hgo t h
  | ended t => rw [hr] at h; rw [stageStep_next hr hst]; exact hout t h
  | cancelled t => exact absurd hr (stageBody_not_cancelled hcancel t)
  | fatal t => rw [hr] at h; rw [stageStep_fatal hr]; exact hhalt t h

/-- R330: where a step of stage 7 leads, no cancel point having fired. -/
theorem stageStep_leads_last {go out halt P Q : State → Prop} (h : (stageBody s.seq.stage s).Comes go out halt)
    (hcancel : s.cancelReq = false) (hst : s.seq.stage = 7) (hgo : ∀ t, go t → P t)
    (hout : ∀ t, out t → t.work.cancelling = false ∧ Q (complete t)) (hhalt : ∀ t, halt t → Q t) :
    (stageStep s).Leads P Q := by
  cases hr : stageBody s.seq.stage s with
  | more t => rw [hr] at h; rw [stageStep_more hr]; exact hgo t h
  | ended t =>
    rw [hr] at h
    obtain ⟨hflag, hend⟩ := hout t h
    rw [stageStep_last hr hst, hflag]
    exact hend
  | cancelled t => exact absurd hr (stageBody_not_cancelled hcancel t)
  | fatal t => rw [hr] at h; rw [stageStep_fatal hr]; exact hhalt t h

theorem fullpassBody_stage (hst : s.seq.stage ≠ 0) (hcancel : s.cancelReq = false) : fullpassBody s = stageStep s := by
  rw [fullpassBody, if_neg hst, if_neg (by simp [hcancel])]

end

/-! ### Where an undisturbed pass stands -/

/-- An accepted `FULLPASS` before its first step. -/
structure PassStart (a : State) : Prop where
  lastcmd : a.lastcmd = 0x3F#64
  busy : a.busy = true
  done : a.done = false
  cancelled : a.cancelled = false
  cancelReq : a.cancelReq = false
  err : a.err = .none

/-- R212: the answers since `a` confirm the activation. -/
structure Confirmed (a : State) : Prop where
  free : (Spec.answerAt a 0).getLsbD 0 = false
  enough : Enough id a 1

/-- The most answers the tests use (R329, R410). -/
def testReads (a : State) : ℕ := readsFrom a.cfg a.region 2

/-- R330: one of the tests of a confirmed pass. -/
structure Testing (a s : State) : Prop where
  stage : TestStage s.seq.stage
  confirmed : Confirmed a
  test : s.pins.dirOf .test = .output
  lower : a.answered + 1 + a.cfg.confirmLoops.toNat ≤ s.answered
  upper : s.answered + stageReads s + readsFrom a.cfg a.region (s.seq.stage + 1) ≤
    a.answered + 1 + a.cfg.confirmLoops.toNat + testReads a
  keeps : StageKeeps s

/-- R330: every test has run, with `m` answers used. -/
structure Tested (a : State) (m : ℕ) (s : State) : Prop where
  confirmed : Confirmed a
  rest : AtRest s.pins
  count : s.res.slogCount = 19#5
  lower : 1 + a.cfg.confirmLoops.toNat ≤ m
  upper : m ≤ 1 + a.cfg.confirmLoops.toNat + testReads a

/-- R330: where the stage of an undisturbed pass since `a` stands. -/
inductive StageAt (a s : State) : Prop
  | prologue (hst : s.seq.stage = 0) (hanswered : s.answered = a.answered) (htrace : s.trace = a.trace)
  | activation (hst : s.seq.stage = 1) (hres : s.res = .zero) (h : Activating a s)
  | test (h : Testing a s)
  | deactivation (m : ℕ) (hst : s.seq.stage = 7) (h : Tested a m s) (hat : DeactivatingFrom a m s)

/-- R330: the mode in which a stage runs. -/
def passMode (st : ℕ) : Mode := if st ≤ 1 then .released else .owned

/-- R330: an undisturbed pass since `a`. -/
structure PassAt (a s : State) : Prop where
  fixed : s.fixed = a.fixed.setMode (passMode s.seq.stage)
  read : ReadFrom a s
  progress : s.progress = BitVec.ofNat 7 (100 * (s.seq.stage - 1) / 7)
  flag : s.seq.stage ≠ 0 → s.work.cancelling = false ∧ s.res.snap = 0#64
  stage : StageAt a s

/-- R330, R331: the ends of an undisturbed pass since `a`. -/
inductive PassEnd (a t : State) : Prop
  | notStarted (h : Spec.passNotStarted a t) (hread : ReadFrom a t) (hwhy : NotActivated a t)
  | completed (m : ℕ) (hconfirmed : Confirmed a) (hlower : 1 + a.cfg.confirmLoops.toNat ≤ m)
      (hupper : m ≤ 1 + a.cfg.confirmLoops.toNat + testReads a)
      (hanswered : t.answered = a.answered + m + a.cfg.confirmLoops.toNat)
      (henough : Enough not a m) (h : Spec.passCompleted a t)
  | notEnded (m : ℕ) (hconfirmed : Confirmed a) (hlower : 1 + a.cfg.confirmLoops.toNat ≤ m)
      (hupper : m ≤ 1 + a.cfg.confirmLoops.toNat + testReads a)
      (hanswered : t.answered = a.answered + m + a.cfg.confirmLoops.toNat)
      (hfew : ¬ Enough not a m) (h : Spec.passNotEnded a t)

section
variable {a s t : State}

theorem PassAt.mode (h : PassAt a s) : s.mode = passMode s.seq.stage :=
  eq_of_fixed (s := a.setMode _) h.fixed State.mode

theorem PassAt.cancelReq (ha : PassStart a) (h : PassAt a s) : s.cancelReq = false :=
  (eq_of_fixed (s := a.setMode _) h.fixed State.cancelReq).trans ha.cancelReq

theorem PassAt.cfg (h : PassAt a s) : s.cfg = a.cfg := eq_of_fixed (s := a.setMode _) h.fixed State.cfg

theorem PassAt.region (h : PassAt a s) : s.region = a.region := eq_of_fixed (s := a.setMode _) h.fixed State.region

theorem PassAt.running (ha : PassStart a) (h : PassAt a s) : s.Running := by
  refine ⟨(eq_of_fixed (s := a.setMode _) h.fixed State.busy).trans ha.busy, ?_⟩
  rw [h.mode, passMode]
  split <;> simp

/-- A step inside a stage. -/
theorem PassAt.within (h : PassAt a s) (hst : s.seq.stage ≠ 0) (hkept : StageKept s t) (hfixed : t.fixed = s.fixed)
    (hstage : StageAt a t) : PassAt a t where
  fixed := by rw [hfixed, hkept.stage]; exact h.fixed
  read := h.read.step hkept.io
  progress := by rw [hkept.progress, hkept.stage]; exact h.progress
  flag _ := by rw [hkept.cancelling, hkept.snap]; exact h.flag hst
  stage := hstage

theorem modeAfter_passMode {st : ℕ} (hst : st ≠ 0) (hlast : st < 7) :
    modeAfter (stageCommand st) (passMode st) = passMode (st + 1) := by
  interval_cases st <;> rfl

/-- Into the next stage. -/
theorem PassAt.next (h : PassAt a s) (hst : s.seq.stage ≠ 0) (hlast : s.seq.stage < 7) (hkept : StageKept s t)
    (hfixed : t.fixed = s.fixed.setMode (modeAfter (stageCommand s.seq.stage) s.mode))
    (hstage : StageAt a (enterStage (s.seq.stage + 1) (phaseEnd true s.seq.stage 7 t))) :
    PassAt a (enterStage (s.seq.stage + 1) (phaseEnd true s.seq.stage 7 t)) where
  fixed := by
    rw [h.mode, modeAfter_passMode hst hlast, h.fixed] at hfixed
    exact hfixed
  read := h.read.step hkept.io
  progress := rfl
  flag _ := by
    have hflag := h.flag hst
    rw [← hkept.cancelling, ← hkept.snap] at hflag
    exact hflag
  stage := hstage

/-! ### The stages -/

theorem pass_prologue (h : PassAt a s) (hst : s.seq.stage = 0)
    (hanswered : s.answered = a.answered) (htrace : s.trace = a.trace) :
    (fullpassBody s).Leads (PassAt a) (PassEnd a) := by
  rw [fullpassBody, if_pos hst]
  have hfixed := h.fixed
  have hprogress := h.progress
  rw [hst] at hfixed hprogress
  exact ⟨hfixed, h.read, hprogress, fun _ => ⟨rfl, rfl⟩, .activation rfl rfl (.release rfl hanswered htrace)⟩

/-- R330, R331: what a halt leaves. -/
theorem passKeeps_of_fixed (ha : PassStart a) {m : Mode} {c : FatalCause}
    (hfixed : t.fixed = { a.fixed with mode := m, fatal := c }) (hsnap : t.res.snap = 0#64) :
    Spec.passKeeps a t ∧ t.mode = m ∧ t.fatal = c ∧ t.busy = true ∧ t.done = false := by
  have same {α : Type} (f : State → α) (hf : ∀ u : State, f u.fixed = f u) :
      f t = f { a with mode := m, fatal := c } := eq_of_fixed (s := { a with mode := m, fatal := c }) hfixed f hf
  exact ⟨⟨(same State.lastcmd fun _ => rfl).trans ha.lastcmd, (same State.cancelled fun _ => rfl).trans ha.cancelled,
    (same State.err fun _ => rfl).trans ha.err, same State.cfg fun _ => rfl, same State.region fun _ => rfl,
    same State.icRef fun _ => rfl, hsnap⟩, same State.mode fun _ => rfl, same State.fatal fun _ => rfl,
    (same State.busy fun _ => rfl).trans ha.busy, (same State.done fun _ => rfl).trans ha.done⟩

theorem pass_activation (ha : PassStart a) (h : PassAt a s) (hst : s.seq.stage = 1) (hres : s.res = .zero)
    (hact : Activating a s) : (fullpassBody s).Leads (PassAt a) (PassEnd a) := by
  have hne : s.seq.stage ≠ 0 := by omega
  have hbody : stageBody s.seq.stage s = activateBody s := by rw [hst]; rfl
  have hact' := activateBody_activating h.cfg h.read hact
  have hres' := comes_self (P := fun t => t.res = .zero) ((activateBody_res s).trans hres)
  rw [← hbody] at hact' hres'
  rw [fullpassBody_stage hne (h.cancelReq ha)]
  refine stageStep_leads_next ((stageBody_comes hne).and (hres'.and hact')) (h.cancelReq ha) (by omega) ?_ ?_ ?_
  · rintro t ⟨⟨hkept, hfixed⟩, hres, hact⟩
    exact h.within hne hkept hfixed (.activation (hkept.stage.trans hst) hres hact)
  · rintro t ⟨⟨hkept, hfixed⟩, hres, hact⟩
    have hstart : Testing a (enterStage 2 (phaseEnd true 1 7 t)) := by
      have hreads := stageReads_start (st := 2) ⟨le_rfl, by omega⟩ (phaseEnd true 1 7 t)
      have hcfg : t.cfg = a.cfg :=
        (eq_of_fixed (s := s.setMode _) hfixed State.cfg).trans h.cfg
      have hregion : t.region = a.region :=
        (eq_of_fixed (s := s.setMode _) hfixed State.region).trans h.region
      change _ + readsFrom t.cfg t.region 3 = readsFrom t.cfg t.region 2 at hreads
      rw [hcfg, hregion] at hreads
      have hanswered : (enterStage 2 (phaseEnd true 1 7 t)).answered = _ := hact.answered
      refine ⟨⟨le_rfl, by simp⟩, ⟨hact.free, hact.enough⟩, hact.test, hanswered.ge, ?_, ?_⟩
      · rw [hanswered, Nat.add_assoc, testReads, ← hreads]
        exact le_rfl
      · exact busReleasing_of_phase (.inr rfl)
    have hnext := h.next hne (by omega) hkept hfixed
    rw [hst] at hnext ⊢
    exact hnext (.test hstart)
  · rintro t ⟨⟨hkept, c, hfixed⟩, hres, hnot⟩
    have hsnap : t.res.snap = 0#64 := congrArg Results.snap hres
    rw [h.fixed] at hfixed
    obtain ⟨hkeeps, hmode, -, hbusy, hdone⟩ := passKeeps_of_fixed ha (m := .halted) (c := c) hfixed hsnap
    have hprogress : t.progress = 0#7 := by rw [hkept.progress, h.progress, hst]
    exact .notStarted ⟨hkeeps, hmode, hbusy, hdone, hprogress, registers_of_res_zero hres⟩ (h.read.step hkept.io) hnot

theorem pass_test (ha : PassStart a) (h : PassAt a s) (ht : Testing a s) :
    (fullpassBody s).Leads (PassAt a) (PassEnd a) := by
  obtain ⟨hst, hconfirmed, htest, hlower, hupper, hkeeps⟩ := ht
  obtain ⟨h2, h6⟩ := id hst
  have hne : s.seq.stage ≠ 0 := by omega
  have hcancel := h.cancelReq ha
  have htest' := comes_self (P := fun t => t.pins.dirOf .test = .output) ((stageBody_test hst).trans htest)
  have hmono : s.answered ≤ (stageBody s.seq.stage s).state.answered := by
    obtain ⟨-, hsame⟩ | ⟨-, hone⟩ := (stageBody_io hne).parts.2
    · exact hsame.ge
    · exact (Nat.le_succ _).trans hone.ge
  have hall := ((stageBody_comes hne).and ((comes_self (P := fun t => s.answered ≤ t.answered) hmono).and htest')).and
    ((stageBody_keepsTo hst).and (stageKeeps_step hst hcancel hkeeps))
  rw [fullpassBody_stage hne hcancel]
  refine stageStep_leads_next hall hcancel (by omega) ?_ ?_ ?_
  · rintro t ⟨⟨⟨hkept, hfixed⟩, hmono, htest⟩, ⟨hreads, -⟩, hkeeps⟩
    refine h.within hne hkept hfixed (.test ⟨hkept.stage.symm ▸ hst, hconfirmed, htest, hlower.trans hmono, ?_, hkeeps⟩)
    rw [hkept.stage]
    omega
  · rintro t ⟨⟨⟨hkept, hfixed⟩, hmono, htest⟩, ⟨hreads, -⟩, hkeeps⟩
    refine h.next hne (by omega) hkept hfixed ?_
    generalize hp : BitVec.ofNat 7 (100 * s.seq.stage / 7) = p
    have hphase : phaseEnd true s.seq.stage 7 t = t.setProgress p := hp ▸ rfl
    rw [hphase]
    have hkeeps := hkeeps p
    have hcfg : t.cfg = a.cfg := (eq_of_fixed (s := s.setMode _) hfixed State.cfg).trans h.cfg
    have hregion : t.region = a.region := (eq_of_fixed (s := s.setMode _) hfixed State.region).trans h.region
    obtain hlast | hnext : s.seq.stage = 6 ∨ s.seq.stage + 1 ≤ 6 := by omega
    · rw [hlast] at hkeeps hupper ⊢
      obtain ⟨hrest, hcount⟩ := hkeeps
      have hm : t.answered = a.answered + (t.answered - a.answered) := by omega
      exact .deactivation (t.answered - a.answered) rfl ⟨hconfirmed, hrest, hcount, by omega, by omega⟩
        (.drive rfl hm htest)
    · have hstart := stageReads_start (st := s.seq.stage + 1) ⟨by omega, hnext⟩ (t.setProgress p)
      change _ + readsFrom t.cfg t.region _ = readsFrom t.cfg t.region _ at hstart
      rw [hcfg, hregion] at hstart
      refine .test ⟨⟨show 2 ≤ s.seq.stage + 1 by omega, hnext⟩, hconfirmed, htest, hlower.trans hmono, ?_, hkeeps⟩
      change t.answered + _ + readsFrom a.cfg a.region (s.seq.stage + 1 + 1) ≤ _
      omega
  · rintro t ⟨-, -, hfalse⟩
    exact hfalse.elim

/-- R33: the pins at the end of a pass. -/
theorem AtRest.afterPass {p : Pins} (h : AtRest p) {d : Dir} (htest : p.dirOf .test = d ∧ p.outOf .test = false) :
    Spec.afterPass d p := by
  obtain ⟨⟨hdata, hdataOut⟩, haddr, haddrOut⟩ := h.buses
  refine ⟨hdata, hdataOut, haddr, haddrOut, fun g hres hack => ?_⟩
  by_cases hg : g = .test
  · subst hg
    exact ⟨htest.2, htest.1⟩
  · rw [if_neg hg]
    exact h.line hg hres hack

theorem pass_deactivation (ha : PassStart a) (h : PassAt a s) {m : ℕ} (hst : s.seq.stage = 7) (ht : Tested a m s)
    (hat : DeactivatingFrom a m s) : (fullpassBody s).Leads (PassAt a) (PassEnd a) := by
  have hne : s.seq.stage ≠ 0 := by omega
  have hcancel := h.cancelReq ha
  have hbody : stageBody s.seq.stage s = deactivateBody s := by rw [hst]; rfl
  have hat' := deactivateBody_deactivating h.cfg h.read hat
  have hrest' := comes_self (P := fun t => AtRest t.pins) (ht.rest.testStep (deactivateBody_pinStep s))
  have hcount' := comes_self (P := fun t => t.res.slogCount = 19#5)
    ((congrArg Results.slogCount (deactivateBody_res s)).trans ht.count)
  have hall := (hrest'.and hcount').and hat'
  rw [← hbody] at hall
  rw [fullpassBody_stage hne hcancel]
  refine stageStep_leads_last ((stageBody_comes hne).and hall) hcancel hst ?_ ?_ ?_
  · rintro t ⟨⟨hkept, hfixed⟩, ⟨hrest, hcount⟩, hat⟩
    exact h.within hne hkept hfixed
      (.deactivation m (hkept.stage.trans hst) ⟨ht.confirmed, hrest, hcount, ht.lower, ht.upper⟩ hat)
  · rintro t ⟨⟨hkept, hfixed⟩, ⟨hrest, hcount⟩, hend⟩
    obtain ⟨hflag, hsnap⟩ := h.flag hne
    rw [hst, h.fixed] at hfixed
    obtain ⟨hkeeps, hmode, hfatal, -⟩ :=
      passKeeps_of_fixed ha (m := .released) (c := a.fatal) hfixed (hkept.snap.trans hsnap)
    exact ⟨hkept.cancelling.trans hflag, .completed m ht.confirmed ht.lower ht.upper hend.answered hend.enough
      ⟨hkeeps, hmode, rfl, rfl, rfl, rfl, hfatal, hcount, hrest.afterPass hend.test⟩⟩
  · rintro t ⟨⟨hkept, c, hfixed⟩, ⟨hrest, hcount⟩, hend⟩
    obtain ⟨-, hsnap⟩ := h.flag hne
    rw [h.fixed] at hfixed
    obtain ⟨hkeeps, hmode, -, hbusy, hdone⟩ :=
      passKeeps_of_fixed ha (m := .halted) (c := c) hfixed (hkept.snap.trans hsnap)
    have hprogress : t.progress = 85#7 := by rw [hkept.progress, h.progress, hst]
    exact .notEnded m ht.confirmed ht.lower ht.upper hend.answered hend.few
      ⟨hkeeps, hmode, hend.fatal, hbusy, hdone, hprogress, hcount, hrest.afterPass hend.test⟩

theorem pass_step (ha : PassStart a) (h : PassAt a s) : (fullpassBody s).Leads (PassAt a) (PassEnd a) := by
  cases h.stage with
  | prologue hst hanswered htrace => exact pass_prologue h hst hanswered htrace
  | activation hst hres hact => exact pass_activation ha h hst hres hact
  | test ht => exact pass_test ha h ht
  | deactivation m hst ht hat => exact pass_deactivation ha h hst ht hat

end

end Sys2Proof.Machine
end

section
/-! The whole run of `FULLPASS` (R330 to R332): O39. -/

namespace Sys2Proof.Machine
open Sys2Proof

/-! ### Acceptance -/

/-- R359: the configuration group of `FULLPASS`. -/
theorem groupOk_all (c : Cfg) : configLegal .fullpass c = Spec.groupOk .all c := by
  simp [Spec.groupOk, configLegal, pctOk_eq, Cfg.loopsLegal]

theorem exec_fullpass_accepted {s : State} (hbusy : s.busy = false) (hmode : s.mode = .released)
    (hcfg : Spec.groupOk .all s.cfg = true) (hregion : s.region.length.toNat ≤ 65536) :
    exec .fullpass s = .next (accept 0x3F#64 s) := by
  have hlegal : s.region.legal = true := decide_eq_true hregion
  rw [exec_idle hbusy (by simp [hmode]), present, groupOk_all, hcfg, hlegal, hmode]
  rfl

/-- R330: from its acceptance an undisturbed pass comes to one of its ends. -/
theorem fullpass_ends {s : State} (hbusy : s.busy = false) (hmode : s.mode = .released)
    (hcfg : Spec.groupOk .all s.cfg = true) (hregion : s.region.length.toNat ≤ 65536) :
    ∃ n t, Spec.execN .fullpass n s = .next t ∧ PassEnd (accept 0x3F#64 s) t := by
  have haccept := exec_fullpass_accepted hbusy hmode hcfg hregion
  have hfixed : (accept 0x3F#64 s).fixed = (accept 0x3F#64 s).fixed.setMode .released := by rw [← hmode]; rfl
  have hstart : PassAt (accept 0x3F#64 s) (accept 0x3F#64 s) :=
    ⟨hfixed, readFrom_refl _, by simp [accept, Seq.start], fun h => absurd rfl h, .prologue rfl rfl rfl⟩
  have ha : PassStart (accept 0x3F#64 s) := ⟨rfl, rfl, rfl, rfl, rfl, rfl⟩
  generalize accept 0x3F#64 s = a at haccept hstart ha ⊢
  obtain ⟨n, t, hrun, hend⟩ := run_leads (i := .fullpass) fullpassBody_descends (fun _ h => h.running ha)
    (fun _ h => pass_step ha h) hstart
  exact ⟨n + 1, t, (execN_succ haccept n).trans hrun, hend⟩

/-! ### The answers of the environment, as the statement lists them -/

theorem answerAt_of_getElem? {s : State} {k : ℕ} {x : BitVec 16} (h : s.answers[k]? = some x) :
    Spec.answerAt s k = x := by
  rw [Spec.answerAt, h, Option.getD_some]

section
variable {s : State} {first : BitVec 16} {l rest : List (BitVec 16)} (hs : s.answers = first :: (l ++ rest))
include hs

theorem answerAt_first : Spec.answerAt s 0 = first := answerAt_of_getElem? (by rw [hs]; rfl)

theorem answerAt_samples {k : ℕ} (hk : k < l.length) : Spec.answerAt s (1 + k) = l[k] := by
  refine answerAt_of_getElem? ?_
  rw [hs, Nat.add_comm, List.getElem?_cons_succ, List.getElem?_append_left hk, List.getElem?_eq_getElem hk]

theorem answerAt_mem_rest {k : ℕ} (hlower : 1 + l.length ≤ k) (hupper : k < 1 + l.length + rest.length) :
    Spec.answerAt s k ∈ rest := by
  obtain ⟨j, rfl⟩ := Nat.exists_eq_add_of_le hlower
  have hj : j < rest.length := by omega
  have hget : s.answers[1 + l.length + j]? = some rest[j] := by
    rw [hs, Nat.add_assoc, Nat.add_comm, List.getElem?_cons_succ, List.getElem?_append_right (Nat.le_add_right ..),
      Nat.add_sub_cancel_left, List.getElem?_eq_getElem hj]
  rw [answerAt_of_getElem? hget]
  exact List.getElem_mem hj

/-- R212: the samples of the activation are the answers of `l`. -/
theorem hitsAt_samples : hitsAt id s 1 l.length = l.countP fun a => a.getLsbD 0 := by
  have hl : l = (List.range l.length).map fun k => Spec.answerAt s (1 + k) :=
    List.ext_getElem (by simp) fun k hk _ => by simp [answerAt_samples hs hk]
  conv_rhs => rw [hl, List.countP_map]
  rfl

theorem enough_samples_iff (hlen : l.length = s.cfg.confirmLoops.toNat) :
    Enough id s 1 ↔ s.cfg.actPct.toNat * l.length ≤ (l.countP fun a => a.getLsbD 0) * 100 := by
  rw [Enough, ← hlen, hitsAt_samples hs]

/-- R215: where every answer is inactive, the deactivation is confirmed. -/
theorem enough_of_inactive (hlen : l.length = s.cfg.confirmLoops.toNat) (hpct : s.cfg.actPct.toNat ≤ 100)
    (hrest : ∀ a ∈ rest, a.getLsbD 0 = false) {m : ℕ} (hlower : 1 + l.length ≤ m) (hupper : m ≤ 1 + rest.length) :
    Enough not s m := by
  have hall : hitsAt not s m l.length = l.length := by
    refine (List.countP_eq_length.mpr fun k hk => ?_).trans List.length_range
    have hk := List.mem_range.mp hk
    rw [hrest _ (answerAt_mem_rest hs (by omega) (by omega))]
    rfl
  rw [Enough, ← hlen, hall, Nat.mul_comm]
  exact Nat.mul_le_mul_left _ hpct

end

theorem actPct_le {c : Cfg} (h : Spec.groupOk .all c = true) : c.actPct.toNat ≤ 100 := by
  rw [← groupOk_all] at h
  simp only [configLegal, pctLegal, Bool.and_eq_true, decide_eq_true_eq] at h
  obtain ⟨⟨⟨-, -, hact⟩, -⟩, -⟩ := h
  exact hact

theorem testReads_add (a : State) : testReads a + a.cfg.confirmLoops.toNat = Spec.passReads a.cfg a.region := by
  simp only [testReads, readsFrom, suiteTotal, Spec.passReads]
  omega

/-! ### The ends -/

section
variable {a t : State}

theorem PassEnd.of_active (h : PassEnd a t) (hfirst : (Spec.answerAt a 0).getLsbD 0 = true) :
    Spec.passNotStarted a t ∧ t.fatal = .alreadyActive ∧
      t.trace = [.ctlRead .test true, .ctlDir .test .input] ++ a.trace := by
  have hnot : ¬ (Spec.answerAt a 0).getLsbD 0 = false := ne_of_eq_of_ne hfirst Bool.false_ne_true.symm
  cases h with
  | notStarted h _ hwhy =>
    cases hwhy with
    | active _ hfatal htrace => exact ⟨h, hfatal, htrace⟩
    | few hfree => exact absurd hfree hnot
  | completed _ hconfirmed | notEnded _ hconfirmed => exact absurd hconfirmed.free hnot

theorem PassEnd.of_few (h : PassEnd a t) (hfirst : (Spec.answerAt a 0).getLsbD 0 = false) (hfew : ¬ Enough id a 1) :
    Spec.passNotStarted a t ∧ t.fatal = .activateFailed ∧
      t.answers = a.answers.drop (1 + a.cfg.confirmLoops.toNat) := by
  cases h with
  | notStarted h hread hwhy =>
    cases hwhy with
    | active hactive => exact absurd (hfirst.symm.trans hactive) Bool.false_ne_true
    | few _ hfatal _ hanswered =>
      refine ⟨h, hfatal, hread.2.trans (congrArg a.answers.drop ?_)⟩
      omega
  | completed _ hconfirmed | notEnded _ hconfirmed => exact absurd hconfirmed.enough hfew

/-- R330, R331: a confirmed pass comes to its deactivation, and the answers to that decide. -/
theorem PassEnd.of_confirmed (h : PassEnd a t) (ha : Confirmed a) :
    ∃ m, 1 + a.cfg.confirmLoops.toNat ≤ m ∧ m ≤ 1 + Spec.passReads a.cfg a.region ∧
      t.answered = a.answered + m + a.cfg.confirmLoops.toNat ∧
      (Enough not a m ∧ Spec.passCompleted a t ∨ ¬ Enough not a m ∧ Spec.passNotEnded a t) := by
  have htotal := testReads_add a
  cases h with
  | notStarted _ _ hwhy =>
    cases hwhy with
    | active hactive => exact absurd (ha.free.symm.trans hactive) Bool.false_ne_true
    | few _ _ hfew => exact absurd ha.enough hfew
  | completed m _ hlower hupper hanswered henough h => exact ⟨m, hlower, by omega, hanswered, .inl ⟨henough, h⟩⟩
  | notEnded m _ hlower hupper hanswered hfew h => exact ⟨m, hlower, by omega, hanswered, .inr ⟨hfew, h⟩⟩

end

/-- Settles O39: one run to one of the ends, told apart by the answers of the environment. -/
theorem fullpassRun : Obligations.FullpassRun := by
  unfold Obligations.FullpassRun
  intro s first l rest hbusy hmode hcfg hregion hs hlen
  obtain ⟨n, t, hrun, hend⟩ := fullpass_ends hbusy hmode hcfg hregion
  have hfirst := answerAt_first hs
  have henough := enough_samples_iff hs hlen
  have hconfirmed (hfree : first.getLsbD 0 = false)
      (hl : s.cfg.actPct.toNat * l.length ≤ (l.countP fun a => a.getLsbD 0) * 100) :
      ∃ m, 1 + s.cfg.confirmLoops.toNat ≤ m ∧ m ≤ 1 + Spec.passReads s.cfg s.region ∧
        t.answered = s.answered + m + s.cfg.confirmLoops.toNat ∧
        (Enough not s m ∧ Spec.passCompleted s t ∨ ¬ Enough not s m ∧ Spec.passNotEnded s t) :=
    hend.of_confirmed (a := accept 0x3F#64 s) ⟨hfirst ▸ hfree, henough.mpr hl⟩
  refine ⟨fun hactive => ?_, fun hfree hfew => ?_, fun hfree hl => ?_, fun hfree hl hreads hinactive => ?_⟩
  · exact ⟨n, t, hrun, hend.of_active (hfirst ▸ hactive)⟩
  · obtain ⟨hnot, hfatal, hanswers⟩ := hend.of_few (hfirst ▸ hfree) (mt henough.mp (by omega))
    refine ⟨n, t, hrun, hnot, hfatal, hanswers.trans ?_⟩
    change s.answers.drop (1 + s.cfg.confirmLoops.toNat) = rest
    rw [hs, ← hlen, Nat.add_comm, List.drop_succ_cons, List.drop_left]
  · obtain ⟨m, hlower, -, hanswered, hcases⟩ := hconfirmed hfree hl
    rw [hlen]
    refine ⟨n, t, m, hrun, hlower, hanswered, ?_⟩
    obtain ⟨hyes, h⟩ | ⟨hno, h⟩ := hcases
    · rw [if_pos]
      · exact h
      · exact hyes
    · rw [if_neg]
      · exact h
      · exact hno
  · obtain ⟨m, hlower, hupper, -, ⟨-, h⟩ | ⟨hno, -⟩⟩ := hconfirmed hfree hl
    · exact ⟨n, t, hrun, h⟩
    · exact absurd (enough_of_inactive hs hlen (actPct_le hcfg) hinactive (by omega) (by omega)) hno

end Sys2Proof.Machine
end

section
/-! Reset (R390 to R392) and `HALTED` (R352 to R354): O9 to O12. -/

namespace Sys2Proof.Machine
open Sys2Proof

/-! ### The registers and the pins after reset (R60, R391) -/

/-- R60: but for the configuration, every register is 0 at reset. -/
theorem resetValue_of_not_cfg {n : Nat} (h : n < 0x10 ∨ 0x18 < n) : Spec.resetValue n = 0#64 := by
  unfold Spec.resetValue
  split
  case h_10 => rfl
  all_goals omega

/-- R60, R390: at reset each register of the model holds the reset value of the table. -/
theorem value_reset (r : RegId) : r.value State.reset = Spec.resetValue r.index := by
  obtain hlow | hresult := Nat.lt_or_ge r.index 0x20
  case inr =>
    rw [resetValue_of_not_cfg (by omega)]
    exact (forall_registers_iff State.reset 0x20).mp (registers_of_res_zero rfl) r hresult
  case inl =>
    cases r with
    | icRef i =>
      rw [resetValue_of_not_cfg (by simp only [RegId.index]; omega)]
      exact congrArg (BitVec.setWidth 64) (vec8_get (fun _ => 0#32) i)
    | trBit | aggBit | slogCmd | slogTotal | slogBit => simp only [RegId.index] at hlow; omega
    | _ => rfl

theorem registers_reset : ∀ e ∈ Spec.registers State.reset, e.2.2 = Spec.resetValue e.1 := by
  rw [registers_eq, List.forall_mem_map]
  exact fun r _ => value_reset r

/-- R391: of the control signals `INT` and `WAIT` alone are driven, and none is active. -/
theorem pins_reset (g : Sig) :
    Pins.reset.ctlOut.get g.idx = false ∧
    Pins.reset.ctlDir.get g.idx = if g = .int ∨ g = .wait then .output else .input := by
  cases g <;> exact ⟨rfl, rfl⟩

theorem isReset_reset : Spec.IsReset State.reset :=
  ⟨rfl, rfl, rfl, rfl, rfl, rfl, rfl, rfl, rfl, rfl, registers_reset, rfl, rfl, rfl, rfl, pins_reset⟩

/-- R390: `IsReset` says nothing of what a reset leaves: the trace and the side of the environment and the host. -/
theorem isReset_resetEngine (s : State) : Spec.IsReset (resetEngine s) := isReset_reset

/-! ### The step of a reset -/

theorem step_reset {s : State} {rest : List HostAct} (h : s.host = .reset :: rest) :
    step s = .next (resetEngine { s with host := rest }) := by rw [step, h]

/-- Settles O9. -/
theorem resetFromAnyState : Obligations.ResetFromAnyState := by
  unfold Obligations.ResetFromAnyState
  exact ⟨isReset_reset, fun s rest h => ⟨_, step_reset h, isReset_resetEngine _, rfl⟩⟩

/-- Settles O10. -/
theorem resetKeepsTheEnvironment : Obligations.ResetKeepsTheEnvironment := by
  unfold Obligations.ResetKeepsTheEnvironment
  exact fun s rest h => ⟨_, step_reset h, rfl, rfl, rfl, rfl, rfl, rfl⟩

/-! ### The turns of `HALTED` -/

section
variable {s : State} (hm : s.mode = .halted)
include hm

theorem engineStep_halted : engineStep s = .fault .halted := if_pos hm

theorem idleTurn_halted : idleTurn s = .next s := if_pos hm

/-- R61, R354: in `HALTED` no command runs, so a read takes no draw; the record of replies alone changes. -/
theorem hostRead_halted (n : Nat) : ∃ v, hostRead n s = { s with replies := ⟨n, v⟩ :: s.replies } := by
  cases hr : regOf n with
  | none => exact ⟨0#64, by rw [hostRead, hr]⟩
  | some r => exact ⟨r.value s, hostRead_specified hr fun hrun => absurd hm hrun.2⟩

end

/-- Settles O11. -/
theorem haltedEngineHasNoStep : Obligations.HaltedEngineHasNoStep := by
  unfold Obligations.HaltedEngineHasNoStep
  refine fun s hm => ⟨fun i => exec_halted hm, fun hsilent => ?_⟩
  rw [step, hsilent]
  exact engineStep_halted hm

/-- Settles O12: the four actions a host can take in `HALTED`. -/
theorem haltedOnlyResetLeaves : Obligations.HaltedOnlyResetLeaves := by
  unfold Obligations.HaltedOnlyResetLeaves
  intro s rest hm
  refine ⟨fun n v h => ?write, fun n h => ?read, fun h => ?idle, fun h => ⟨_, step_reset h, rfl, rfl⟩⟩
  case write =>
    rw [step_write h rfl]
    exact writeStep_now (hostWrite_halted hm)
  case read =>
    obtain ⟨v, hv⟩ := hostRead_halted (s := { s with host := rest }) hm n
    exact ⟨v, by rw [step_read h, hv]⟩
  case idle =>
    rw [step, h]
    exact idleTurn_halted (s := { s with host := rest }) hm

end Sys2Proof.Machine
end

section
/-! The invariants of O48 to O56 at reset: O57. At reset nothing runs, the pins are at rest, the trace is empty and
every result register is 0. -/

namespace Sys2Proof.Machine
open Sys2Proof

theorem reset_not_running : ¬ State.reset.Running := fun hrun => Bool.false_ne_true hrun.1

theorem ownershipInv_at_reset : OwnershipInv State.reset := ownershipInv_idle rfl (by decide) rfl

/-- R217: no operation has been issued, and the engine does not own the bus. -/
theorem gateInv_at_reset : GateInv State.reset :=
  gateInv_of_not_running ownershipInv_at_reset reset_not_running ⟨trivial, fun howned => by cases howned⟩

/-- The pins are where a reset puts them: the invariant does not see the trace. -/
theorem pinsInv_at_reset : PinsInv State.reset := pinsInv_reset State.reset

theorem crosstalkInv_at_reset : CrosstalkInv State.reset :=
  (crosstalkInv_iff _).mpr (.of_start rfl ⟨xtLegal_zero, xtWorkLegal_reset⟩)

theorem ctrlRecordInv_at_reset : CtrlRecordInv State.reset :=
  StageInv.of_start (c := .verifyCtrl) (base := CtrlRecordLegal) (inside := MasksLegal) rfl (ctrlBitsLegal_zero 12)

theorem progressInv_at_reset : ProgressInv State.reset := ⟨Nat.zero_le _, fun _ hbusy => by cases hbusy⟩

/-- Settles O57. -/
theorem invariantsHoldAtReset : Obligations.InvariantsHoldAtReset := by
  unfold Obligations.InvariantsHoldAtReset
  exact ⟨ownershipInv_at_reset, gateInv_at_reset, pinsInv_at_reset, (issuesInv_iff _).mpr flagsSummarise_zero,
    crosstalkInv_at_reset, ctrlRecordInv_at_reset, (countersInv_iff _).mpr countersSound_zero, progressInv_at_reset,
    regionInv_of_not_running reset_not_running⟩

end Sys2Proof.Machine
end
